-- ==== Sys2Proof/Word.lean ====
section
/-! DEFINITION. The machine's word types (00_scope.md R7, R9: XLEN 32, byte addressing, 5-bit register indices). -/

namespace Sys2Proof

/-- A 32-bit datapath word: register contents, the PC, addresses, instruction words (R9, R30, R37, R90). -/
abbrev Word := BitVec 32

/-- One byte of instruction or data memory (R64). -/
abbrev Byte := BitVec 8

/-- A 5-bit register index, 0 to 31 (R30, R110). -/
abbrev RegIdx := BitVec 5

end Sys2Proof
end

