-- ==== Sys2Proof/Syntax.lean ====
section
/-! DEFINITION. The instructions: one constructor per row of spec/opcode_table.json, each with every field its row leaves open. -/

namespace Sys2Proof

/-- One constructor per row of the opcode table (30_encoding.md R129). Immediates are the raw fields of R93 to R98: `imm20` is
inst[31:12], a branch's `imm` has 13 bits and a JAL's 21, bit 0 always 0. -/
inductive Instr where
  -- Upper immediates and jumps (41_upper_immediate.md, 42_jumps.md).
  /-- LUI, R200: load upper immediate. -/
  | lui (rd : RegIdx) (imm20 : BitVec 20)
  /-- AUIPC, R201: add upper immediate to PC. -/
  | auipc (rd : RegIdx) (imm20 : BitVec 20)
  /-- JAL, R210: jump and link. -/
  | jal (rd : RegIdx) (imm : BitVec 21)
  /-- JALR, R211: jump and link register, funct3 000. -/
  | jalr (rd : RegIdx) (rs1 : RegIdx) (imm : BitVec 12)
  -- Conditional branches (45_branches.md). `imm` is the 13-bit byte offset, always even (R96).
  /-- BEQ, R260: branch if equal. -/
  | beq (rs1 : RegIdx) (rs2 : RegIdx) (imm : BitVec 13)
  /-- BNE, R261: branch if not equal. -/
  | bne (rs1 : RegIdx) (rs2 : RegIdx) (imm : BitVec 13)
  /-- BLT, R262: branch if less than, signed. -/
  | blt (rs1 : RegIdx) (rs2 : RegIdx) (imm : BitVec 13)
  /-- BGE, R263: branch if greater or equal, signed. -/
  | bge (rs1 : RegIdx) (rs2 : RegIdx) (imm : BitVec 13)
  /-- BLTU, R264: branch if less than, unsigned. -/
  | bltu (rs1 : RegIdx) (rs2 : RegIdx) (imm : BitVec 13)
  /-- BGEU, R265: branch if greater or equal, unsigned. -/
  | bgeu (rs1 : RegIdx) (rs2 : RegIdx) (imm : BitVec 13)
  -- Loads (43_loads.md).
  /-- LB, R220: load byte, sign-extended. -/
  | lb (rd : RegIdx) (rs1 : RegIdx) (imm : BitVec 12)
  /-- LH, R221: load halfword, sign-extended. -/
  | lh (rd : RegIdx) (rs1 : RegIdx) (imm : BitVec 12)
  /-- LW, R222: load word. -/
  | lw (rd : RegIdx) (rs1 : RegIdx) (imm : BitVec 12)
  /-- LBU, R223: load byte, zero-extended. -/
  | lbu (rd : RegIdx) (rs1 : RegIdx) (imm : BitVec 12)
  /-- LHU, R224: load halfword, zero-extended. -/
  | lhu (rd : RegIdx) (rs1 : RegIdx) (imm : BitVec 12)
  -- Stores (46_stores.md).
  /-- SB, R280: store byte. -/
  | sb (rs1 : RegIdx) (rs2 : RegIdx) (imm : BitVec 12)
  /-- SH, R281: store halfword. -/
  | sh (rs1 : RegIdx) (rs2 : RegIdx) (imm : BitVec 12)
  /-- SW, R282: store word. -/
  | sw (rs1 : RegIdx) (rs2 : RegIdx) (imm : BitVec 12)
  -- Register-immediate ALU instructions (44_op_imm.md).
  /-- ADDI, R240: add immediate. -/
  | addi (rd : RegIdx) (rs1 : RegIdx) (imm : BitVec 12)
  /-- SLTI, R241: set if less than immediate, signed. -/
  | slti (rd : RegIdx) (rs1 : RegIdx) (imm : BitVec 12)
  /-- SLTIU, R242: set if less than immediate, unsigned. -/
  | sltiu (rd : RegIdx) (rs1 : RegIdx) (imm : BitVec 12)
  /-- XORI, R243: exclusive-or immediate. -/
  | xori (rd : RegIdx) (rs1 : RegIdx) (imm : BitVec 12)
  /-- ORI, R244: or immediate. -/
  | ori (rd : RegIdx) (rs1 : RegIdx) (imm : BitVec 12)
  /-- ANDI, R245: and immediate. -/
  | andi (rd : RegIdx) (rs1 : RegIdx) (imm : BitVec 12)
  /-- SLLI, R246: shift left logical immediate, funct7 0000000. -/
  | slli (rd : RegIdx) (rs1 : RegIdx) (shamt : BitVec 5)
  /-- SRLI, R247: shift right logical immediate. -/
  | srli (rd : RegIdx) (rs1 : RegIdx) (shamt : BitVec 5)
  /-- SRAI, R248: shift right arithmetic immediate, funct7 0100000. -/
  | srai (rd : RegIdx) (rs1 : RegIdx) (shamt : BitVec 5)
  -- Register-register ALU instructions (47_op.md).
  /-- ADD, R300: register-register ADD. -/
  | add (rd : RegIdx) (rs1 : RegIdx) (rs2 : RegIdx)
  /-- SUB, R301: register-register SUB. -/
  | sub (rd : RegIdx) (rs1 : RegIdx) (rs2 : RegIdx)
  /-- SLL, R302: register-register SLL. -/
  | sll (rd : RegIdx) (rs1 : RegIdx) (rs2 : RegIdx)
  /-- SLT, R303: register-register SLT. -/
  | slt (rd : RegIdx) (rs1 : RegIdx) (rs2 : RegIdx)
  /-- SLTU, R304: register-register SLTU. -/
  | sltu (rd : RegIdx) (rs1 : RegIdx) (rs2 : RegIdx)
  /-- XOR, R305: register-register XOR. -/
  | xor (rd : RegIdx) (rs1 : RegIdx) (rs2 : RegIdx)
  /-- SRL, R306: register-register SRL. -/
  | srl (rd : RegIdx) (rs1 : RegIdx) (rs2 : RegIdx)
  /-- SRA, R307: register-register SRA. -/
  | sra (rd : RegIdx) (rs1 : RegIdx) (rs2 : RegIdx)
  /-- OR, R308: register-register OR. -/
  | or (rd : RegIdx) (rs1 : RegIdx) (rs2 : RegIdx)
  /-- AND, R309: register-register AND. -/
  | and (rd : RegIdx) (rs1 : RegIdx) (rs2 : RegIdx)
  -- MISC-MEM and SYSTEM words, all the safe default (48_default_noop.md). Their ignored fields are kept, so that no bit of a word is lost.
  /-- FENCE, R330: every field is ignored. -/
  | fence (fm : BitVec 4) (pred : BitVec 4) (succ : BitVec 4) (rs1 : RegIdx) (rd : RegIdx)
  /-- FENCE.I, R331: every field is ignored. -/
  | fenceI (imm : BitVec 12) (rs1 : RegIdx) (rd : RegIdx)
  /-- ECALL, R332: 0x00000073 exactly. -/
  | ecall
  /-- EBREAK, R333: 0x00100073 exactly. -/
  | ebreak
  /-- CSRRW, R334: no CSR exists: every field is ignored. -/
  | csrrw (rd : RegIdx) (rs1 : RegIdx) (csr : BitVec 12)
  /-- CSRRS, R335: no CSR exists: every field is ignored. -/
  | csrrs (rd : RegIdx) (rs1 : RegIdx) (csr : BitVec 12)
  /-- CSRRC, R336: no CSR exists: every field is ignored. -/
  | csrrc (rd : RegIdx) (rs1 : RegIdx) (csr : BitVec 12)
  /-- CSRRWI, R337: no CSR exists: every field is ignored. -/
  | csrrwi (rd : RegIdx) (uimm : BitVec 5) (csr : BitVec 12)
  /-- CSRRSI, R338: no CSR exists: every field is ignored. -/
  | csrrsi (rd : RegIdx) (uimm : BitVec 5) (csr : BitVec 12)
  /-- CSRRCI, R339: no CSR exists: every field is ignored. -/
  | csrrci (rd : RegIdx) (uimm : BitVec 5) (csr : BitVec 12)
  /-- MRET, R340: 0x30200073 exactly. -/
  | mret
  /-- SRET, R341: 0x10200073 exactly. -/
  | sret
  /-- WFI, R342: 0x10500073 exactly. -/
  | wfi
  /-- SFENCE.VMA, R343: both fields are ignored. -/
  | sfenceVma (rs1 : RegIdx) (rs2 : RegIdx)
  -- M-extension words under opcode OP (R345 to R352).
  /-- MUL, R345: M-extension word, no arithmetic on this core. -/
  | mul (rd : RegIdx) (rs1 : RegIdx) (rs2 : RegIdx)
  /-- MULH, R346: M-extension word, no arithmetic on this core. -/
  | mulh (rd : RegIdx) (rs1 : RegIdx) (rs2 : RegIdx)
  /-- MULHSU, R347: M-extension word, no arithmetic on this core. -/
  | mulhsu (rd : RegIdx) (rs1 : RegIdx) (rs2 : RegIdx)
  /-- MULHU, R348: M-extension word, no arithmetic on this core. -/
  | mulhu (rd : RegIdx) (rs1 : RegIdx) (rs2 : RegIdx)
  /-- DIV, R349: M-extension word, no arithmetic on this core. -/
  | div (rd : RegIdx) (rs1 : RegIdx) (rs2 : RegIdx)
  /-- DIVU, R350: M-extension word, no arithmetic on this core. -/
  | divu (rd : RegIdx) (rs1 : RegIdx) (rs2 : RegIdx)
  /-- REM, R351: M-extension word, no arithmetic on this core. -/
  | rem (rd : RegIdx) (rs1 : RegIdx) (rs2 : RegIdx)
  /-- REMU, R352: M-extension word, no arithmetic on this core. -/
  | remu (rd : RegIdx) (rs1 : RegIdx) (rs2 : RegIdx)
  -- Non-standard encodings that decode to a defined class (priority 2 of the opcode table).
  /-- LOAD.f3-110__acts_as_LW, R226: LOAD with funct3 110: a word load. -/
  | loadWordF3_110 (rd : RegIdx) (rs1 : RegIdx) (imm : BitVec 12)
  /-- LOAD.size-11, R225: LOAD with funct3 `f3hi ++ 11`: size code 11. -/
  | loadSize11 (f3hi : BitVec 1) (rd : RegIdx) (rs1 : RegIdx) (imm : BitVec 12)
  /-- JALR.f3-nonzero, R211: JALR with funct3 other than 000. -/
  | jalrF3Nonzero (funct3 : BitVec 3) (rd : RegIdx) (rs1 : RegIdx) (imm : BitVec 12)
  /-- BRANCH.f3-01x__never_taken, R266: BRANCH with funct3 `01 ++ f3lo`: never taken. -/
  | branchF3_01x (f3lo : BitVec 1) (rs1 : RegIdx) (rs2 : RegIdx) (imm : BitVec 13)
  /-- STORE.size-11, R283: STORE with funct3 `f3hi ++ 11`: size code 11. -/
  | storeSize11 (f3hi : BitVec 1) (rs1 : RegIdx) (rs2 : RegIdx) (imm : BitVec 12)
  /-- STORE.f3-100__acts_as_SB, R284: STORE with funct3 100: acts as SB. -/
  | storeByteF3_100 (rs1 : RegIdx) (rs2 : RegIdx) (imm : BitVec 12)
  /-- STORE.f3-101__acts_as_SH, R284: STORE with funct3 101: acts as SH. -/
  | storeHalfF3_101 (rs1 : RegIdx) (rs2 : RegIdx) (imm : BitVec 12)
  /-- STORE.f3-110__acts_as_SW, R284: STORE with funct3 110: acts as SW. -/
  | storeWordF3_110 (rs1 : RegIdx) (rs2 : RegIdx) (imm : BitVec 12)
  /-- SLLI.any-funct7, R249: SLLI with funct7 other than 0000000. -/
  | slliAnyFunct7 (funct7 : BitVec 7) (rd : RegIdx) (rs1 : RegIdx) (shamt : BitVec 5)
  /-- SRAI.any-funct7, R250: SRAI with funct7[5] = 1 and another funct7 bit set. -/
  | sraiAnyFunct7 (funct7 : BitVec 7) (rd : RegIdx) (rs1 : RegIdx) (shamt : BitVec 5)
  /-- OP.ADD.any-funct7, R310: ADD with a non-standard funct7 other than 0000001. -/
  | opAddAnyFunct7 (funct7 : BitVec 7) (rd : RegIdx) (rs1 : RegIdx) (rs2 : RegIdx)
  /-- OP.SUB.any-funct7, R310: SUB with a non-standard funct7 other than 0000001. -/
  | opSubAnyFunct7 (funct7 : BitVec 7) (rd : RegIdx) (rs1 : RegIdx) (rs2 : RegIdx)
  /-- OP.SRL.any-funct7, R310: SRL with a non-standard funct7 other than 0000001. -/
  | opSrlAnyFunct7 (funct7 : BitVec 7) (rd : RegIdx) (rs1 : RegIdx) (rs2 : RegIdx)
  /-- OP.SRA.any-funct7, R310: SRA with a non-standard funct7 other than 0000001. -/
  | opSraAnyFunct7 (funct7 : BitVec 7) (rd : RegIdx) (rs1 : RegIdx) (rs2 : RegIdx)
  /-- OP.SLL.any-funct7, R310: SLL with a non-standard funct7 other than 0000001. -/
  | opSllAnyFunct7 (funct7 : BitVec 7) (rd : RegIdx) (rs1 : RegIdx) (rs2 : RegIdx)
  /-- OP.SLT.any-funct7, R310: SLT with a non-standard funct7 other than 0000001. -/
  | opSltAnyFunct7 (funct7 : BitVec 7) (rd : RegIdx) (rs1 : RegIdx) (rs2 : RegIdx)
  /-- OP.SLTU.any-funct7, R310: SLTU with a non-standard funct7 other than 0000001. -/
  | opSltuAnyFunct7 (funct7 : BitVec 7) (rd : RegIdx) (rs1 : RegIdx) (rs2 : RegIdx)
  /-- OP.XOR.any-funct7, R310: XOR with a non-standard funct7 other than 0000001. -/
  | opXorAnyFunct7 (funct7 : BitVec 7) (rd : RegIdx) (rs1 : RegIdx) (rs2 : RegIdx)
  /-- OP.OR.any-funct7, R310: OR with a non-standard funct7 other than 0000001. -/
  | opOrAnyFunct7 (funct7 : BitVec 7) (rd : RegIdx) (rs1 : RegIdx) (rs2 : RegIdx)
  /-- OP.AND.any-funct7, R310: AND with a non-standard funct7 other than 0000001. -/
  | opAndAnyFunct7 (funct7 : BitVec 7) (rd : RegIdx) (rs1 : RegIdx) (rs2 : RegIdx)
  -- The rest of the word space (R344, R353, R354).
  /-- SYSTEM.other, R344: any other SYSTEM word; `bits` is inst[31:7]. -/
  | systemOther (bits : BitVec 25)
  /-- OP-IMM.SRxI.bad-funct7, R353: OP-IMM funct3 101 with funct7 not 0000000 and funct7[5] = 0. -/
  | srxiBadFunct7 (funct7 : BitVec 7) (rd : RegIdx) (rs1 : RegIdx) (shamt : BitVec 5)
  /-- DEFAULT__unrecognised, R354: every word no other row matches. -/
  | unrecognised (word : Word)
deriving DecidableEq, Repr

end Sys2Proof
end

