-- ==== Sys2Proof/WellFormed.lean ====
section
/-! DEFINITION. Which terms of `Instr` stand for a word of their own row: the checks the row's mask, its priority and the immediate
formats put on the fields. -/

namespace Sys2Proof

/-- A branch or jump offset is even (R96, R98): bit 0 is not encoded. -/
def evenOffset {n : Nat} (imm : BitVec n) : Bool := imm.getLsbD 0 == false

/-- R310: a funct7 that is none of 0000000, 0100000 and 0000001, for functions that ignore funct7[5]. For SLL, SLT, SLTU, XOR, OR and
AND the standard row takes only 0000000, so 0100000 is non-standard too. -/
def nonStandardFunct7 (funct7 : BitVec 7) : Bool := funct7 != 0b0000000#7 && funct7 != 0b0000001#7

/-- R310, ADD and SRL: funct7[5] = 0 and a non-standard funct7. -/
def nonStandardFunct7Bit5Clear (funct7 : BitVec 7) : Bool := funct7.getLsbD 5 == false && nonStandardFunct7 funct7

/-- R310, SUB and SRA, and R250: funct7[5] = 1 and another bit set. -/
def nonStandardFunct7Bit5Set (funct7 : BitVec 7) : Bool := funct7.getLsbD 5 && funct7 != 0b0100000#7

/-- R353: funct7 is not 0000000 and funct7[5] = 0. -/
def badShiftFunct7 (funct7 : BitVec 7) : Bool := funct7.getLsbD 5 == false && funct7 != 0b0000000#7

/-- R344: `bits` = inst[31:7] of a SYSTEM word that none of R332 to R343 matches: funct3 100, or funct3 000 and not ECALL, EBREAK,
MRET, SRET, WFI or SFENCE.VMA. -/
def otherSystemBits (bits : BitVec 25) : Bool :=
  bits.extractLsb' 5 3 == 0b100#3 ||
    (bits.extractLsb' 5 3 == 0b000#3 &&
      !([0x0000000#25, 0x0002000#25, 0x0604000#25, 0x0204000#25, 0x020A000#25].contains bits) &&
      !(bits.extractLsb' 18 7 == 0b0001001#7 && bits.extractLsb' 0 5 == 0b00000#5))

/-- The ten opcodes for which every word has a row of its own: the nine of R99 and SYSTEM (R344). -/
def coveredOpcodes : List (BitVec 7) :=
  [0b0110111#7, 0b0010111#7, 0b1101111#7, 0b1100111#7, 0b0000011#7, 0b0010011#7, 0b1100011#7, 0b0100011#7, 0b0110011#7, 0b1110011#7]

/-- R354: no other row matches the word: its opcode is not covered, and it is neither FENCE nor FENCE.I. -/
def unrecognisedWord (word : Word) : Bool :=
  !(coveredOpcodes.contains (word.extractLsb' 0 7)) &&
    !(word.extractLsb' 0 7 == 0b0001111#7 && (word.extractLsb' 12 3 == 0b000#3 || word.extractLsb' 12 3 == 0b001#3))

/-- The checks on an instruction's fields. -/
def Instr.wf : Instr → Bool
  | .lui _ _ => true
  | .auipc _ _ => true
  | .jal _ imm => evenOffset imm
  | .jalr _ _ _ => true
  | .beq _ _ imm => evenOffset imm
  | .bne _ _ imm => evenOffset imm
  | .blt _ _ imm => evenOffset imm
  | .bge _ _ imm => evenOffset imm
  | .bltu _ _ imm => evenOffset imm
  | .bgeu _ _ imm => evenOffset imm
  | .lb _ _ _ => true
  | .lh _ _ _ => true
  | .lw _ _ _ => true
  | .lbu _ _ _ => true
  | .lhu _ _ _ => true
  | .sb _ _ _ => true
  | .sh _ _ _ => true
  | .sw _ _ _ => true
  | .addi _ _ _ => true
  | .slti _ _ _ => true
  | .sltiu _ _ _ => true
  | .xori _ _ _ => true
  | .ori _ _ _ => true
  | .andi _ _ _ => true
  | .slli _ _ _ => true
  | .srli _ _ _ => true
  | .srai _ _ _ => true
  | .add _ _ _ => true
  | .sub _ _ _ => true
  | .sll _ _ _ => true
  | .slt _ _ _ => true
  | .sltu _ _ _ => true
  | .xor _ _ _ => true
  | .srl _ _ _ => true
  | .sra _ _ _ => true
  | .or _ _ _ => true
  | .and _ _ _ => true
  | .fence _ _ _ _ _ => true
  | .fenceI _ _ _ => true
  | .ecall => true
  | .ebreak => true
  | .csrrw _ _ _ => true
  | .csrrs _ _ _ => true
  | .csrrc _ _ _ => true
  | .csrrwi _ _ _ => true
  | .csrrsi _ _ _ => true
  | .csrrci _ _ _ => true
  | .mret => true
  | .sret => true
  | .wfi => true
  | .sfenceVma _ _ => true
  | .mul _ _ _ => true
  | .mulh _ _ _ => true
  | .mulhsu _ _ _ => true
  | .mulhu _ _ _ => true
  | .div _ _ _ => true
  | .divu _ _ _ => true
  | .rem _ _ _ => true
  | .remu _ _ _ => true
  | .loadWordF3_110 _ _ _ => true
  | .loadSize11 _ _ _ _ => true
  | .jalrF3Nonzero funct3 _ _ _ => funct3 != 0b000#3
  | .branchF3_01x _ _ _ imm => evenOffset imm
  | .storeSize11 _ _ _ _ => true
  | .storeByteF3_100 _ _ _ => true
  | .storeHalfF3_101 _ _ _ => true
  | .storeWordF3_110 _ _ _ => true
  | .slliAnyFunct7 funct7 _ _ _ => funct7 != 0b0000000#7
  | .sraiAnyFunct7 funct7 _ _ _ => nonStandardFunct7Bit5Set funct7
  | .opAddAnyFunct7 funct7 _ _ _ => nonStandardFunct7Bit5Clear funct7
  | .opSubAnyFunct7 funct7 _ _ _ => nonStandardFunct7Bit5Set funct7
  | .opSrlAnyFunct7 funct7 _ _ _ => nonStandardFunct7Bit5Clear funct7
  | .opSraAnyFunct7 funct7 _ _ _ => nonStandardFunct7Bit5Set funct7
  | .opSllAnyFunct7 funct7 _ _ _ => nonStandardFunct7 funct7
  | .opSltAnyFunct7 funct7 _ _ _ => nonStandardFunct7 funct7
  | .opSltuAnyFunct7 funct7 _ _ _ => nonStandardFunct7 funct7
  | .opXorAnyFunct7 funct7 _ _ _ => nonStandardFunct7 funct7
  | .opOrAnyFunct7 funct7 _ _ _ => nonStandardFunct7 funct7
  | .opAndAnyFunct7 funct7 _ _ _ => nonStandardFunct7 funct7
  | .systemOther bits => otherSystemBits bits
  | .srxiBadFunct7 funct7 _ _ _ => badShiftFunct7 funct7
  | .unrecognised word => unrecognisedWord word

/-- A well-formed instruction: the one its encoding decodes to. -/
abbrev WellFormed (i : Instr) : Prop := i.wf = true

end Sys2Proof
end

