-- ==== Sys2Proof/Decode.lean ====
section
/-! DEFINITION. The Decoder (30_encoding.md): fields, immediates, the dispatch on opcode, funct3 and funct7, the encoder, the opcode
table as data, and the forms the host asks for. -/

namespace Sys2Proof

/-! ### Fields of an instruction word (R91) -/

/-- inst[6:0] (R91). -/
def fieldOpcode (w : Word) : BitVec 7 := w.extractLsb' 0 7
/-- inst[11:7] (R91). -/
def fieldRd (w : Word) : RegIdx := w.extractLsb' 7 5
/-- inst[14:12] (R91). -/
def fieldFunct3 (w : Word) : BitVec 3 := w.extractLsb' 12 3
/-- inst[19:15] (R91). -/
def fieldRs1 (w : Word) : RegIdx := w.extractLsb' 15 5
/-- inst[24:20] (R91); also the shift amount of R94. -/
def fieldRs2 (w : Word) : RegIdx := w.extractLsb' 20 5
/-- inst[31:25] (R91). -/
def fieldFunct7 (w : Word) : BitVec 7 := w.extractLsb' 25 7

/-! ### Immediate fields (R92 to R98), before their extension to 32 bits (Machine/Operands.lean) -/

/-- inst[31:20] (R93). -/
def fieldImmI (w : Word) : BitVec 12 := w.extractLsb' 20 12
/-- inst[31:25] ++ inst[11:7] (R95). -/
def fieldImmS (w : Word) : BitVec 12 := w.extractLsb' 25 7 ++ w.extractLsb' 7 5
/-- inst[31] ++ inst[7] ++ inst[30:25] ++ inst[11:8] ++ 0 (R96). -/
def fieldImmB (w : Word) : BitVec 13 :=
  w.extractLsb' 31 1 ++ w.extractLsb' 7 1 ++ w.extractLsb' 25 6 ++ w.extractLsb' 8 4 ++ 0#1
/-- inst[31:12] (R97). -/
def fieldImmU (w : Word) : BitVec 20 := w.extractLsb' 12 20
/-- inst[31] ++ inst[19:12] ++ inst[20] ++ inst[30:21] ++ 0 (R98). -/
def fieldImmJ (w : Word) : BitVec 21 :=
  w.extractLsb' 31 1 ++ w.extractLsb' 12 8 ++ w.extractLsb' 20 1 ++ w.extractLsb' 21 10 ++ 0#1

/-! ### The dispatch (R99, R111 to R120) -/

/-- JALR: every funct3 decodes as JALR (R114); funct3 000 is the standard row. -/
def decodeJalr (w : Word) : Instr :=
  if fieldFunct3 w = 0b000#3 then .jalr (fieldRd w) (fieldRs1 w) (fieldImmI w)
  else .jalrF3Nonzero (fieldFunct3 w) (fieldRd w) (fieldRs1 w) (fieldImmI w)

/-- BRANCH: every funct3 decodes as a BRANCH (R117). -/
def decodeBranch (w : Word) : Instr :=
  if fieldFunct3 w = 0b000#3 then .beq (fieldRs1 w) (fieldRs2 w) (fieldImmB w)
  else if fieldFunct3 w = 0b001#3 then .bne (fieldRs1 w) (fieldRs2 w) (fieldImmB w)
  else if fieldFunct3 w = 0b100#3 then .blt (fieldRs1 w) (fieldRs2 w) (fieldImmB w)
  else if fieldFunct3 w = 0b101#3 then .bge (fieldRs1 w) (fieldRs2 w) (fieldImmB w)
  else if fieldFunct3 w = 0b110#3 then .bltu (fieldRs1 w) (fieldRs2 w) (fieldImmB w)
  else if fieldFunct3 w = 0b111#3 then .bgeu (fieldRs1 w) (fieldRs2 w) (fieldImmB w)
  else .branchF3_01x (w.extractLsb' 12 1) (fieldRs1 w) (fieldRs2 w) (fieldImmB w)

/-- LOAD: every funct3 decodes as a LOAD (R115); R68 names the sizes. -/
def decodeLoad (w : Word) : Instr :=
  if fieldFunct3 w = 0b000#3 then .lb (fieldRd w) (fieldRs1 w) (fieldImmI w)
  else if fieldFunct3 w = 0b001#3 then .lh (fieldRd w) (fieldRs1 w) (fieldImmI w)
  else if fieldFunct3 w = 0b010#3 then .lw (fieldRd w) (fieldRs1 w) (fieldImmI w)
  else if fieldFunct3 w = 0b100#3 then .lbu (fieldRd w) (fieldRs1 w) (fieldImmI w)
  else if fieldFunct3 w = 0b101#3 then .lhu (fieldRd w) (fieldRs1 w) (fieldImmI w)
  else if fieldFunct3 w = 0b110#3 then .loadWordF3_110 (fieldRd w) (fieldRs1 w) (fieldImmI w)
  else .loadSize11 (w.extractLsb' 14 1) (fieldRd w) (fieldRs1 w) (fieldImmI w)

/-- STORE: every funct3 decodes as a STORE, whose size is funct3[1:0] (R118, R69). -/
def decodeStore (w : Word) : Instr :=
  if fieldFunct3 w = 0b000#3 then .sb (fieldRs1 w) (fieldRs2 w) (fieldImmS w)
  else if fieldFunct3 w = 0b001#3 then .sh (fieldRs1 w) (fieldRs2 w) (fieldImmS w)
  else if fieldFunct3 w = 0b010#3 then .sw (fieldRs1 w) (fieldRs2 w) (fieldImmS w)
  else if fieldFunct3 w = 0b100#3 then .storeByteF3_100 (fieldRs1 w) (fieldRs2 w) (fieldImmS w)
  else if fieldFunct3 w = 0b101#3 then .storeHalfF3_101 (fieldRs1 w) (fieldRs2 w) (fieldImmS w)
  else if fieldFunct3 w = 0b110#3 then .storeWordF3_110 (fieldRs1 w) (fieldRs2 w) (fieldImmS w)
  else .storeSize11 (w.extractLsb' 14 1) (fieldRs1 w) (fieldRs2 w) (fieldImmS w)

/-- OP-IMM funct3 101 (R116): SRL for funct7 0000000, SRA when funct7[5] is set, the safe default otherwise (R353, D9). -/
def decodeShiftRightImm (w : Word) : Instr :=
  if fieldFunct7 w = 0b0000000#7 then .srli (fieldRd w) (fieldRs1 w) (fieldRs2 w)
  else if fieldFunct7 w = 0b0100000#7 then .srai (fieldRd w) (fieldRs1 w) (fieldRs2 w)
  else if (fieldFunct7 w).getLsbD 5 then .sraiAnyFunct7 (fieldFunct7 w) (fieldRd w) (fieldRs1 w) (fieldRs2 w)
  else .srxiBadFunct7 (fieldFunct7 w) (fieldRd w) (fieldRs1 w) (fieldRs2 w)

/-- OP-IMM (R116). funct3 001 is SLL whatever funct7 is (R249). -/
def decodeOpImm (w : Word) : Instr :=
  if fieldFunct3 w = 0b000#3 then .addi (fieldRd w) (fieldRs1 w) (fieldImmI w)
  else if fieldFunct3 w = 0b010#3 then .slti (fieldRd w) (fieldRs1 w) (fieldImmI w)
  else if fieldFunct3 w = 0b011#3 then .sltiu (fieldRd w) (fieldRs1 w) (fieldImmI w)
  else if fieldFunct3 w = 0b100#3 then .xori (fieldRd w) (fieldRs1 w) (fieldImmI w)
  else if fieldFunct3 w = 0b110#3 then .ori (fieldRd w) (fieldRs1 w) (fieldImmI w)
  else if fieldFunct3 w = 0b111#3 then .andi (fieldRd w) (fieldRs1 w) (fieldImmI w)
  else if fieldFunct3 w = 0b001#3 then
    if fieldFunct7 w = 0b0000000#7 then .slli (fieldRd w) (fieldRs1 w) (fieldRs2 w)
    else .slliAnyFunct7 (fieldFunct7 w) (fieldRd w) (fieldRs1 w) (fieldRs2 w)
  else decodeShiftRightImm w

/-- OP with funct7 0000001 (R119, first row; C2, D28): the eight M-extension words. -/
def decodeOpMul (w : Word) : Instr :=
  if fieldFunct3 w = 0b000#3 then .mul (fieldRd w) (fieldRs1 w) (fieldRs2 w)
  else if fieldFunct3 w = 0b001#3 then .mulh (fieldRd w) (fieldRs1 w) (fieldRs2 w)
  else if fieldFunct3 w = 0b010#3 then .mulhsu (fieldRd w) (fieldRs1 w) (fieldRs2 w)
  else if fieldFunct3 w = 0b011#3 then .mulhu (fieldRd w) (fieldRs1 w) (fieldRs2 w)
  else if fieldFunct3 w = 0b100#3 then .div (fieldRd w) (fieldRs1 w) (fieldRs2 w)
  else if fieldFunct3 w = 0b101#3 then .divu (fieldRd w) (fieldRs1 w) (fieldRs2 w)
  else if fieldFunct3 w = 0b110#3 then .rem (fieldRd w) (fieldRs1 w) (fieldRs2 w)
  else .remu (fieldRd w) (fieldRs1 w) (fieldRs2 w)

/-- OP with funct7 0000000: the standard rows but SUB and SRA (R300, R302 to R306, R308, R309). -/
def decodeOpZero (w : Word) : Instr :=
  if fieldFunct3 w = 0b000#3 then .add (fieldRd w) (fieldRs1 w) (fieldRs2 w)
  else if fieldFunct3 w = 0b001#3 then .sll (fieldRd w) (fieldRs1 w) (fieldRs2 w)
  else if fieldFunct3 w = 0b010#3 then .slt (fieldRd w) (fieldRs1 w) (fieldRs2 w)
  else if fieldFunct3 w = 0b011#3 then .sltu (fieldRd w) (fieldRs1 w) (fieldRs2 w)
  else if fieldFunct3 w = 0b100#3 then .xor (fieldRd w) (fieldRs1 w) (fieldRs2 w)
  else if fieldFunct3 w = 0b101#3 then .srl (fieldRd w) (fieldRs1 w) (fieldRs2 w)
  else if fieldFunct3 w = 0b110#3 then .or (fieldRd w) (fieldRs1 w) (fieldRs2 w)
  else .and (fieldRd w) (fieldRs1 w) (fieldRs2 w)

/-- OP with funct3 000 or 101 and funct7 neither 0000000 nor 0000001 (R119, R301, R307, R310): `std` is the standard row's instruction
(funct7 0100000), `one` and `zero` the rows of R310 for funct7[5] = 1 and 0. -/
def decodeOpByBit5 (w : Word) (std : RegIdx → RegIdx → RegIdx → Instr) (one zero : BitVec 7 → RegIdx → RegIdx → RegIdx → Instr) :
    Instr :=
  if fieldFunct7 w = 0b0100000#7 then std (fieldRd w) (fieldRs1 w) (fieldRs2 w)
  else if (fieldFunct7 w).getLsbD 5 then one (fieldFunct7 w) (fieldRd w) (fieldRs1 w) (fieldRs2 w)
  else zero (fieldFunct7 w) (fieldRd w) (fieldRs1 w) (fieldRs2 w)

/-- OP with any other funct7 (R119, R310). -/
def decodeOpOther (w : Word) : Instr :=
  if fieldFunct3 w = 0b000#3 then decodeOpByBit5 w .sub .opSubAnyFunct7 .opAddAnyFunct7
  else if fieldFunct3 w = 0b101#3 then decodeOpByBit5 w .sra .opSraAnyFunct7 .opSrlAnyFunct7
  else if fieldFunct3 w = 0b001#3 then .opSllAnyFunct7 (fieldFunct7 w) (fieldRd w) (fieldRs1 w) (fieldRs2 w)
  else if fieldFunct3 w = 0b010#3 then .opSltAnyFunct7 (fieldFunct7 w) (fieldRd w) (fieldRs1 w) (fieldRs2 w)
  else if fieldFunct3 w = 0b011#3 then .opSltuAnyFunct7 (fieldFunct7 w) (fieldRd w) (fieldRs1 w) (fieldRs2 w)
  else if fieldFunct3 w = 0b100#3 then .opXorAnyFunct7 (fieldFunct7 w) (fieldRd w) (fieldRs1 w) (fieldRs2 w)
  else if fieldFunct3 w = 0b110#3 then .opOrAnyFunct7 (fieldFunct7 w) (fieldRd w) (fieldRs1 w) (fieldRs2 w)
  else .opAndAnyFunct7 (fieldFunct7 w) (fieldRd w) (fieldRs1 w) (fieldRs2 w)

/-- OP (R119). -/
def decodeOp (w : Word) : Instr :=
  if fieldFunct7 w = 0b0000001#7 then decodeOpMul w
  else if fieldFunct7 w = 0b0000000#7 then decodeOpZero w
  else decodeOpOther w

/-- MISC-MEM: FENCE and FENCE.I have rows of their own (R330, R331), the rest is unrecognised (R354). -/
def decodeMiscMem (w : Word) : Instr :=
  if fieldFunct3 w = 0b000#3 then
    .fence (w.extractLsb' 28 4) (w.extractLsb' 24 4) (w.extractLsb' 20 4) (fieldRs1 w) (fieldRd w)
  else if fieldFunct3 w = 0b001#3 then .fenceI (fieldImmI w) (fieldRs1 w) (fieldRd w)
  else .unrecognised w

/-- SYSTEM (R332 to R344). -/
def decodeSystem (w : Word) : Instr :=
  if fieldFunct3 w = 0b001#3 then .csrrw (fieldRd w) (fieldRs1 w) (fieldImmI w)
  else if fieldFunct3 w = 0b010#3 then .csrrs (fieldRd w) (fieldRs1 w) (fieldImmI w)
  else if fieldFunct3 w = 0b011#3 then .csrrc (fieldRd w) (fieldRs1 w) (fieldImmI w)
  else if fieldFunct3 w = 0b101#3 then .csrrwi (fieldRd w) (fieldRs1 w) (fieldImmI w)
  else if fieldFunct3 w = 0b110#3 then .csrrsi (fieldRd w) (fieldRs1 w) (fieldImmI w)
  else if fieldFunct3 w = 0b111#3 then .csrrci (fieldRd w) (fieldRs1 w) (fieldImmI w)
  else if w = 0x00000073#32 then .ecall
  else if w = 0x00100073#32 then .ebreak
  else if w = 0x30200073#32 then .mret
  else if w = 0x10200073#32 then .sret
  else if w = 0x10500073#32 then .wfi
  else if fieldFunct3 w = 0b000#3 ∧ fieldFunct7 w = 0b0001001#7 ∧ fieldRd w = 0b00000#5 then .sfenceVma (fieldRs1 w) (fieldRs2 w)
  else .systemOther (w.extractLsb' 7 25)

/-- The Decoder: total on all 2^32 words (R110, R121), dispatching on the opcode (R99). -/
def decode (w : Word) : Instr :=
  if fieldOpcode w = 0b0110111#7 then .lui (fieldRd w) (fieldImmU w)
  else if fieldOpcode w = 0b0010111#7 then .auipc (fieldRd w) (fieldImmU w)
  else if fieldOpcode w = 0b1101111#7 then .jal (fieldRd w) (fieldImmJ w)
  else if fieldOpcode w = 0b1100111#7 then decodeJalr w
  else if fieldOpcode w = 0b0000011#7 then decodeLoad w
  else if fieldOpcode w = 0b0010011#7 then decodeOpImm w
  else if fieldOpcode w = 0b1100011#7 then decodeBranch w
  else if fieldOpcode w = 0b0100011#7 then decodeStore w
  else if fieldOpcode w = 0b0110011#7 then decodeOp w
  else if fieldOpcode w = 0b0001111#7 then decodeMiscMem w
  else if fieldOpcode w = 0b1110011#7 then decodeSystem w
  else .unrecognised w

/-! ### Bytes (R63: the word at an address is its four bytes, the lowest address least significant) -/

/-- Why bytes do not decode: fewer than the four of one word (R90). No word is rejected (R121). -/
inductive DecodeError where
  | fewerThanFourBytes
deriving DecidableEq, Repr

/-- One instruction from a byte sequence, with the bytes after it. -/
def decodeBytes : List Byte → Except DecodeError (Instr × List Byte)
  | b0 :: b1 :: b2 :: b3 :: rest => .ok (decode (b3 ++ b2 ++ b1 ++ b0), rest)
  | _ => .error .fewerThanFourBytes

/-- A word's four bytes, lowest address first (R63). -/
def wordBytes (w : Word) : List Byte := [w.extractLsb' 0 8, w.extractLsb' 8 8, w.extractLsb' 16 8, w.extractLsb' 24 8]

/-- The instruction's word among `nbits` low bits of `w`, the bits above them 0 (R90: 32 bits at most). -/
def tableWord (nbits w : Nat) : Word := BitVec.ofNat 32 (w % 2 ^ nbits)

/-- What the decoder reads from an instruction whose bits are `w`, laid out as the fetch collaborator stores it. -/
def decodeTableWord (nbits w : Nat) : Option Instr :=
  match decodeBytes (wordBytes (tableWord nbits w)) with
  | .ok (i, _) => some i
  | .error _ => none

/-! ### The encoder (R92) -/

/-- The six fields of R91, in their places: every format is this one with immediate bits in some of them (R92). -/
def packFields (funct7 : BitVec 7) (rs2 rs1 : RegIdx) (funct3 : BitVec 3) (rd : RegIdx) (opcode : BitVec 7) : Word :=
  funct7 ++ rs2 ++ rs1 ++ funct3 ++ rd ++ opcode

/-- I format (R92). -/
def packI (imm : BitVec 12) (rs1 : RegIdx) (funct3 : BitVec 3) (rd : RegIdx) (opcode : BitVec 7) : Word :=
  packFields (imm.extractLsb' 5 7) (imm.extractLsb' 0 5) rs1 funct3 rd opcode

/-- S format (R92). -/
def packS (imm : BitVec 12) (rs2 rs1 : RegIdx) (funct3 : BitVec 3) (opcode : BitVec 7) : Word :=
  packFields (imm.extractLsb' 5 7) rs2 rs1 funct3 (imm.extractLsb' 0 5) opcode

/-- B format (R92): inst[31] = imm[12], inst[30:25] = imm[10:5], inst[11:8] = imm[4:1], inst[7] = imm[11]. -/
def packB (imm : BitVec 13) (rs2 rs1 : RegIdx) (funct3 : BitVec 3) (opcode : BitVec 7) : Word :=
  packFields (imm.extractLsb' 12 1 ++ imm.extractLsb' 5 6) rs2 rs1 funct3 (imm.extractLsb' 1 4 ++ imm.extractLsb' 11 1) opcode

/-- U format (R92); `imm20` is imm[31:12]. -/
def packU (imm20 : BitVec 20) (rd : RegIdx) (opcode : BitVec 7) : Word :=
  packFields (imm20.extractLsb' 13 7) (imm20.extractLsb' 8 5) (imm20.extractLsb' 3 5) (imm20.extractLsb' 0 3) rd opcode

/-- J format (R92): inst[31] = imm[20], inst[30:21] = imm[10:1], inst[20] = imm[11], inst[19:12] = imm[19:12]. -/
def packJ (imm : BitVec 21) (rd : RegIdx) (opcode : BitVec 7) : Word :=
  packFields (imm.extractLsb' 20 1 ++ imm.extractLsb' 5 6) (imm.extractLsb' 1 4 ++ imm.extractLsb' 11 1) (imm.extractLsb' 15 5)
    (imm.extractLsb' 12 3) rd opcode

/-- The word of a well-formed instruction (R92, R99 and the `match` column of the opcode table). -/
def encode : Instr → Word
  | .lui rd imm20 => packU imm20 rd 0b0110111#7
  | .auipc rd imm20 => packU imm20 rd 0b0010111#7
  | .jal rd imm => packJ imm rd 0b1101111#7
  | .jalr rd rs1 imm => packI imm rs1 0b000#3 rd 0b1100111#7
  | .beq rs1 rs2 imm => packB imm rs2 rs1 0b000#3 0b1100011#7
  | .bne rs1 rs2 imm => packB imm rs2 rs1 0b001#3 0b1100011#7
  | .blt rs1 rs2 imm => packB imm rs2 rs1 0b100#3 0b1100011#7
  | .bge rs1 rs2 imm => packB imm rs2 rs1 0b101#3 0b1100011#7
  | .bltu rs1 rs2 imm => packB imm rs2 rs1 0b110#3 0b1100011#7
  | .bgeu rs1 rs2 imm => packB imm rs2 rs1 0b111#3 0b1100011#7
  | .lb rd rs1 imm => packI imm rs1 0b000#3 rd 0b0000011#7
  | .lh rd rs1 imm => packI imm rs1 0b001#3 rd 0b0000011#7
  | .lw rd rs1 imm => packI imm rs1 0b010#3 rd 0b0000011#7
  | .lbu rd rs1 imm => packI imm rs1 0b100#3 rd 0b0000011#7
  | .lhu rd rs1 imm => packI imm rs1 0b101#3 rd 0b0000011#7
  | .sb rs1 rs2 imm => packS imm rs2 rs1 0b000#3 0b0100011#7
  | .sh rs1 rs2 imm => packS imm rs2 rs1 0b001#3 0b0100011#7
  | .sw rs1 rs2 imm => packS imm rs2 rs1 0b010#3 0b0100011#7
  | .addi rd rs1 imm => packI imm rs1 0b000#3 rd 0b0010011#7
  | .slti rd rs1 imm => packI imm rs1 0b010#3 rd 0b0010011#7
  | .sltiu rd rs1 imm => packI imm rs1 0b011#3 rd 0b0010011#7
  | .xori rd rs1 imm => packI imm rs1 0b100#3 rd 0b0010011#7
  | .ori rd rs1 imm => packI imm rs1 0b110#3 rd 0b0010011#7
  | .andi rd rs1 imm => packI imm rs1 0b111#3 rd 0b0010011#7
  | .slli rd rs1 shamt => packFields 0b0000000#7 shamt rs1 0b001#3 rd 0b0010011#7
  | .srli rd rs1 shamt => packFields 0b0000000#7 shamt rs1 0b101#3 rd 0b0010011#7
  | .srai rd rs1 shamt => packFields 0b0100000#7 shamt rs1 0b101#3 rd 0b0010011#7
  | .add rd rs1 rs2 => packFields 0b0000000#7 rs2 rs1 0b000#3 rd 0b0110011#7
  | .sub rd rs1 rs2 => packFields 0b0100000#7 rs2 rs1 0b000#3 rd 0b0110011#7
  | .sll rd rs1 rs2 => packFields 0b0000000#7 rs2 rs1 0b001#3 rd 0b0110011#7
  | .slt rd rs1 rs2 => packFields 0b0000000#7 rs2 rs1 0b010#3 rd 0b0110011#7
  | .sltu rd rs1 rs2 => packFields 0b0000000#7 rs2 rs1 0b011#3 rd 0b0110011#7
  | .xor rd rs1 rs2 => packFields 0b0000000#7 rs2 rs1 0b100#3 rd 0b0110011#7
  | .srl rd rs1 rs2 => packFields 0b0000000#7 rs2 rs1 0b101#3 rd 0b0110011#7
  | .sra rd rs1 rs2 => packFields 0b0100000#7 rs2 rs1 0b101#3 rd 0b0110011#7
  | .or rd rs1 rs2 => packFields 0b0000000#7 rs2 rs1 0b110#3 rd 0b0110011#7
  | .and rd rs1 rs2 => packFields 0b0000000#7 rs2 rs1 0b111#3 rd 0b0110011#7
  | .fence fm pred succ rs1 rd => packI (fm ++ pred ++ succ) rs1 0b000#3 rd 0b0001111#7
  | .fenceI imm rs1 rd => packI imm rs1 0b001#3 rd 0b0001111#7
  | .ecall => 0x00000073#32
  | .ebreak => 0x00100073#32
  | .csrrw rd rs1 csr => packI csr rs1 0b001#3 rd 0b1110011#7
  | .csrrs rd rs1 csr => packI csr rs1 0b010#3 rd 0b1110011#7
  | .csrrc rd rs1 csr => packI csr rs1 0b011#3 rd 0b1110011#7
  | .csrrwi rd uimm csr => packI csr uimm 0b101#3 rd 0b1110011#7
  | .csrrsi rd uimm csr => packI csr uimm 0b110#3 rd 0b1110011#7
  | .csrrci rd uimm csr => packI csr uimm 0b111#3 rd 0b1110011#7
  | .mret => 0x30200073#32
  | .sret => 0x10200073#32
  | .wfi => 0x10500073#32
  | .sfenceVma rs1 rs2 => packFields 0b0001001#7 rs2 rs1 0b000#3 0b00000#5 0b1110011#7
  | .mul rd rs1 rs2 => packFields 0b0000001#7 rs2 rs1 0b000#3 rd 0b0110011#7
  | .mulh rd rs1 rs2 => packFields 0b0000001#7 rs2 rs1 0b001#3 rd 0b0110011#7
  | .mulhsu rd rs1 rs2 => packFields 0b0000001#7 rs2 rs1 0b010#3 rd 0b0110011#7
  | .mulhu rd rs1 rs2 => packFields 0b0000001#7 rs2 rs1 0b011#3 rd 0b0110011#7
  | .div rd rs1 rs2 => packFields 0b0000001#7 rs2 rs1 0b100#3 rd 0b0110011#7
  | .divu rd rs1 rs2 => packFields 0b0000001#7 rs2 rs1 0b101#3 rd 0b0110011#7
  | .rem rd rs1 rs2 => packFields 0b0000001#7 rs2 rs1 0b110#3 rd 0b0110011#7
  | .remu rd rs1 rs2 => packFields 0b0000001#7 rs2 rs1 0b111#3 rd 0b0110011#7
  | .loadWordF3_110 rd rs1 imm => packI imm rs1 0b110#3 rd 0b0000011#7
  | .loadSize11 f3hi rd rs1 imm => packI imm rs1 (f3hi ++ 0b11#2) rd 0b0000011#7
  | .jalrF3Nonzero funct3 rd rs1 imm => packI imm rs1 funct3 rd 0b1100111#7
  | .branchF3_01x f3lo rs1 rs2 imm => packB imm rs2 rs1 (0b01#2 ++ f3lo) 0b1100011#7
  | .storeSize11 f3hi rs1 rs2 imm => packS imm rs2 rs1 (f3hi ++ 0b11#2) 0b0100011#7
  | .storeByteF3_100 rs1 rs2 imm => packS imm rs2 rs1 0b100#3 0b0100011#7
  | .storeHalfF3_101 rs1 rs2 imm => packS imm rs2 rs1 0b101#3 0b0100011#7
  | .storeWordF3_110 rs1 rs2 imm => packS imm rs2 rs1 0b110#3 0b0100011#7
  | .slliAnyFunct7 funct7 rd rs1 shamt => packFields funct7 shamt rs1 0b001#3 rd 0b0010011#7
  | .sraiAnyFunct7 funct7 rd rs1 shamt => packFields funct7 shamt rs1 0b101#3 rd 0b0010011#7
  | .opAddAnyFunct7 funct7 rd rs1 rs2 => packFields funct7 rs2 rs1 0b000#3 rd 0b0110011#7
  | .opSubAnyFunct7 funct7 rd rs1 rs2 => packFields funct7 rs2 rs1 0b000#3 rd 0b0110011#7
  | .opSrlAnyFunct7 funct7 rd rs1 rs2 => packFields funct7 rs2 rs1 0b101#3 rd 0b0110011#7
  | .opSraAnyFunct7 funct7 rd rs1 rs2 => packFields funct7 rs2 rs1 0b101#3 rd 0b0110011#7
  | .opSllAnyFunct7 funct7 rd rs1 rs2 => packFields funct7 rs2 rs1 0b001#3 rd 0b0110011#7
  | .opSltAnyFunct7 funct7 rd rs1 rs2 => packFields funct7 rs2 rs1 0b010#3 rd 0b0110011#7
  | .opSltuAnyFunct7 funct7 rd rs1 rs2 => packFields funct7 rs2 rs1 0b011#3 rd 0b0110011#7
  | .opXorAnyFunct7 funct7 rd rs1 rs2 => packFields funct7 rs2 rs1 0b100#3 rd 0b0110011#7
  | .opOrAnyFunct7 funct7 rd rs1 rs2 => packFields funct7 rs2 rs1 0b110#3 rd 0b0110011#7
  | .opAndAnyFunct7 funct7 rd rs1 rs2 => packFields funct7 rs2 rs1 0b111#3 rd 0b0110011#7
  | .systemOther bits => bits ++ 0b1110011#7
  | .srxiBadFunct7 funct7 rd rs1 shamt => packFields funct7 shamt rs1 0b101#3 rd 0b0010011#7
  | .unrecognised word => word

/-- The bytes of an instruction, lowest address first (R63). -/
def encodeBytes (i : Instr) : List Byte := wordBytes (encode i)

/-! ### The opcode table as data (R129) -/

/-- One row of opcode_table.json (R129): a word `w` matches when `w &&& mask = bits`; rows are tried in increasing priority. -/
structure TableRow where
  mnemonic : String
  bits     : Word
  mask     : Word
  priority : Nat
deriving DecidableEq, Repr

/-- R129: "a word w matches the row when `(w & mask) == match`". -/
def TableRow.matches (r : TableRow) (w : Word) : Bool := w &&& r.mask == r.bits

/-- Some word matches both rows. -/
def TableRow.overlaps (r r' : TableRow) : Bool := (r.bits ^^^ r'.bits) &&& (r.mask &&& r'.mask) == 0#32

/-- Priority 0: the standard rows of 41, 42 and 45. -/
def tableStandardControl : List TableRow :=
  [{ mnemonic := "LUI", bits := 0x00000037#32, mask := 0x0000007F#32, priority := 0 },
   { mnemonic := "AUIPC", bits := 0x00000017#32, mask := 0x0000007F#32, priority := 0 },
   { mnemonic := "JAL", bits := 0x0000006F#32, mask := 0x0000007F#32, priority := 0 },
   { mnemonic := "JALR", bits := 0x00000067#32, mask := 0x0000707F#32, priority := 0 },
   { mnemonic := "BEQ", bits := 0x00000063#32, mask := 0x0000707F#32, priority := 0 },
   { mnemonic := "BNE", bits := 0x00001063#32, mask := 0x0000707F#32, priority := 0 },
   { mnemonic := "BLT", bits := 0x00004063#32, mask := 0x0000707F#32, priority := 0 },
   { mnemonic := "BGE", bits := 0x00005063#32, mask := 0x0000707F#32, priority := 0 },
   { mnemonic := "BLTU", bits := 0x00006063#32, mask := 0x0000707F#32, priority := 0 },
   { mnemonic := "BGEU", bits := 0x00007063#32, mask := 0x0000707F#32, priority := 0 }]

/-- Priority 0: the standard rows of 43 and 46. -/
def tableStandardMemory : List TableRow :=
  [{ mnemonic := "LB", bits := 0x00000003#32, mask := 0x0000707F#32, priority := 0 },
   { mnemonic := "LH", bits := 0x00001003#32, mask := 0x0000707F#32, priority := 0 },
   { mnemonic := "LW", bits := 0x00002003#32, mask := 0x0000707F#32, priority := 0 },
   { mnemonic := "LBU", bits := 0x00004003#32, mask := 0x0000707F#32, priority := 0 },
   { mnemonic := "LHU", bits := 0x00005003#32, mask := 0x0000707F#32, priority := 0 },
   { mnemonic := "SB", bits := 0x00000023#32, mask := 0x0000707F#32, priority := 0 },
   { mnemonic := "SH", bits := 0x00001023#32, mask := 0x0000707F#32, priority := 0 },
   { mnemonic := "SW", bits := 0x00002023#32, mask := 0x0000707F#32, priority := 0 }]

/-- Priority 0: the standard rows of 44. -/
def tableStandardOpImm : List TableRow :=
  [{ mnemonic := "ADDI", bits := 0x00000013#32, mask := 0x0000707F#32, priority := 0 },
   { mnemonic := "SLTI", bits := 0x00002013#32, mask := 0x0000707F#32, priority := 0 },
   { mnemonic := "SLTIU", bits := 0x00003013#32, mask := 0x0000707F#32, priority := 0 },
   { mnemonic := "XORI", bits := 0x00004013#32, mask := 0x0000707F#32, priority := 0 },
   { mnemonic := "ORI", bits := 0x00006013#32, mask := 0x0000707F#32, priority := 0 },
   { mnemonic := "ANDI", bits := 0x00007013#32, mask := 0x0000707F#32, priority := 0 },
   { mnemonic := "SLLI", bits := 0x00001013#32, mask := 0xFE00707F#32, priority := 0 },
   { mnemonic := "SRLI", bits := 0x00005013#32, mask := 0xFE00707F#32, priority := 0 },
   { mnemonic := "SRAI", bits := 0x40005013#32, mask := 0xFE00707F#32, priority := 0 }]

/-- Priority 0: the standard rows of 47. -/
def tableStandardOp : List TableRow :=
  [{ mnemonic := "ADD", bits := 0x00000033#32, mask := 0xFE00707F#32, priority := 0 },
   { mnemonic := "SUB", bits := 0x40000033#32, mask := 0xFE00707F#32, priority := 0 },
   { mnemonic := "SLL", bits := 0x00001033#32, mask := 0xFE00707F#32, priority := 0 },
   { mnemonic := "SLT", bits := 0x00002033#32, mask := 0xFE00707F#32, priority := 0 },
   { mnemonic := "SLTU", bits := 0x00003033#32, mask := 0xFE00707F#32, priority := 0 },
   { mnemonic := "XOR", bits := 0x00004033#32, mask := 0xFE00707F#32, priority := 0 },
   { mnemonic := "SRL", bits := 0x00005033#32, mask := 0xFE00707F#32, priority := 0 },
   { mnemonic := "SRA", bits := 0x40005033#32, mask := 0xFE00707F#32, priority := 0 },
   { mnemonic := "OR", bits := 0x00006033#32, mask := 0xFE00707F#32, priority := 0 },
   { mnemonic := "AND", bits := 0x00007033#32, mask := 0xFE00707F#32, priority := 0 }]

/-- Priority 0: the named MISC-MEM and SYSTEM rows (R330 to R343). -/
def tableStandardSystem : List TableRow :=
  [{ mnemonic := "FENCE", bits := 0x0000000F#32, mask := 0x0000707F#32, priority := 0 },
   { mnemonic := "FENCE.I", bits := 0x0000100F#32, mask := 0x0000707F#32, priority := 0 },
   { mnemonic := "ECALL", bits := 0x00000073#32, mask := 0xFFFFFFFF#32, priority := 0 },
   { mnemonic := "EBREAK", bits := 0x00100073#32, mask := 0xFFFFFFFF#32, priority := 0 },
   { mnemonic := "CSRRW", bits := 0x00001073#32, mask := 0x0000707F#32, priority := 0 },
   { mnemonic := "CSRRS", bits := 0x00002073#32, mask := 0x0000707F#32, priority := 0 },
   { mnemonic := "CSRRC", bits := 0x00003073#32, mask := 0x0000707F#32, priority := 0 },
   { mnemonic := "CSRRWI", bits := 0x00005073#32, mask := 0x0000707F#32, priority := 0 },
   { mnemonic := "CSRRSI", bits := 0x00006073#32, mask := 0x0000707F#32, priority := 0 },
   { mnemonic := "CSRRCI", bits := 0x00007073#32, mask := 0x0000707F#32, priority := 0 },
   { mnemonic := "MRET", bits := 0x30200073#32, mask := 0xFFFFFFFF#32, priority := 0 },
   { mnemonic := "SRET", bits := 0x10200073#32, mask := 0xFFFFFFFF#32, priority := 0 },
   { mnemonic := "WFI", bits := 0x10500073#32, mask := 0xFFFFFFFF#32, priority := 0 },
   { mnemonic := "SFENCE.VMA", bits := 0x12000073#32, mask := 0xFE007FFF#32, priority := 0 }]

/-- Priority 1: the M-extension rows (R345 to R352). -/
def tableMul : List TableRow :=
  [{ mnemonic := "MUL", bits := 0x02000033#32, mask := 0xFE00707F#32, priority := 1 },
   { mnemonic := "MULH", bits := 0x02001033#32, mask := 0xFE00707F#32, priority := 1 },
   { mnemonic := "MULHSU", bits := 0x02002033#32, mask := 0xFE00707F#32, priority := 1 },
   { mnemonic := "MULHU", bits := 0x02003033#32, mask := 0xFE00707F#32, priority := 1 },
   { mnemonic := "DIV", bits := 0x02004033#32, mask := 0xFE00707F#32, priority := 1 },
   { mnemonic := "DIVU", bits := 0x02005033#32, mask := 0xFE00707F#32, priority := 1 },
   { mnemonic := "REM", bits := 0x02006033#32, mask := 0xFE00707F#32, priority := 1 },
   { mnemonic := "REMU", bits := 0x02007033#32, mask := 0xFE00707F#32, priority := 1 }]

/-- Priority 2: the non-standard encodings that decode to a defined class. -/
def tableNonStandard : List TableRow :=
  [{ mnemonic := "LOAD.f3-110__acts_as_LW", bits := 0x00006003#32, mask := 0x0000707F#32, priority := 2 },
   { mnemonic := "LOAD.size-11", bits := 0x00003003#32, mask := 0x0000307F#32, priority := 2 },
   { mnemonic := "JALR.f3-nonzero", bits := 0x00000067#32, mask := 0x0000007F#32, priority := 2 },
   { mnemonic := "BRANCH.f3-01x__never_taken", bits := 0x00002063#32, mask := 0x0000607F#32, priority := 2 },
   { mnemonic := "STORE.size-11", bits := 0x00003023#32, mask := 0x0000307F#32, priority := 2 },
   { mnemonic := "STORE.f3-100__acts_as_SB", bits := 0x00004023#32, mask := 0x0000707F#32, priority := 2 },
   { mnemonic := "STORE.f3-101__acts_as_SH", bits := 0x00005023#32, mask := 0x0000707F#32, priority := 2 },
   { mnemonic := "STORE.f3-110__acts_as_SW", bits := 0x00006023#32, mask := 0x0000707F#32, priority := 2 },
   { mnemonic := "SLLI.any-funct7", bits := 0x00001013#32, mask := 0x0000707F#32, priority := 2 },
   { mnemonic := "SRAI.any-funct7", bits := 0x40005013#32, mask := 0x4000707F#32, priority := 2 },
   { mnemonic := "OP.ADD.any-funct7", bits := 0x00000033#32, mask := 0x4000707F#32, priority := 2 },
   { mnemonic := "OP.SUB.any-funct7", bits := 0x40000033#32, mask := 0x4000707F#32, priority := 2 },
   { mnemonic := "OP.SRL.any-funct7", bits := 0x00005033#32, mask := 0x4000707F#32, priority := 2 },
   { mnemonic := "OP.SRA.any-funct7", bits := 0x40005033#32, mask := 0x4000707F#32, priority := 2 },
   { mnemonic := "OP.SLL.any-funct7", bits := 0x00001033#32, mask := 0x0000707F#32, priority := 2 },
   { mnemonic := "OP.SLT.any-funct7", bits := 0x00002033#32, mask := 0x0000707F#32, priority := 2 },
   { mnemonic := "OP.SLTU.any-funct7", bits := 0x00003033#32, mask := 0x0000707F#32, priority := 2 },
   { mnemonic := "OP.XOR.any-funct7", bits := 0x00004033#32, mask := 0x0000707F#32, priority := 2 },
   { mnemonic := "OP.OR.any-funct7", bits := 0x00006033#32, mask := 0x0000707F#32, priority := 2 },
   { mnemonic := "OP.AND.any-funct7", bits := 0x00007033#32, mask := 0x0000707F#32, priority := 2 }]

/-- Priority 3 and 9: the safe-default rows that cover the rest of one opcode, and the catch-all. -/
def tableRest : List TableRow :=
  [{ mnemonic := "SYSTEM.other", bits := 0x00000073#32, mask := 0x0000007F#32, priority := 3 },
   { mnemonic := "OP-IMM.SRxI.bad-funct7", bits := 0x00005013#32, mask := 0x0000707F#32, priority := 3 },
   { mnemonic := "DEFAULT__unrecognised", bits := 0x00000000#32, mask := 0x00000000#32, priority := 9 }]

/-- opcode_table.json, in increasing priority (R129). -/
def opcodeTable : List TableRow :=
  tableStandardControl ++ tableStandardMemory ++ tableStandardOpImm ++ tableStandardOp ++ tableStandardSystem ++ tableMul ++ tableNonStandard ++ tableRest

/-- R129: "A decoder tries rows in increasing priority and takes the first match." -/
def tableLookup (w : Word) : Option TableRow := opcodeTable.find? (fun r => r.matches w)

/-- The row each instruction belongs to: its mnemonic in opcode_table.json. -/
def Instr.mnemonic : Instr → String
  | .lui _ _ => "LUI"
  | .auipc _ _ => "AUIPC"
  | .jal _ _ => "JAL"
  | .jalr _ _ _ => "JALR"
  | .beq _ _ _ => "BEQ"
  | .bne _ _ _ => "BNE"
  | .blt _ _ _ => "BLT"
  | .bge _ _ _ => "BGE"
  | .bltu _ _ _ => "BLTU"
  | .bgeu _ _ _ => "BGEU"
  | .lb _ _ _ => "LB"
  | .lh _ _ _ => "LH"
  | .lw _ _ _ => "LW"
  | .lbu _ _ _ => "LBU"
  | .lhu _ _ _ => "LHU"
  | .sb _ _ _ => "SB"
  | .sh _ _ _ => "SH"
  | .sw _ _ _ => "SW"
  | .addi _ _ _ => "ADDI"
  | .slti _ _ _ => "SLTI"
  | .sltiu _ _ _ => "SLTIU"
  | .xori _ _ _ => "XORI"
  | .ori _ _ _ => "ORI"
  | .andi _ _ _ => "ANDI"
  | .slli _ _ _ => "SLLI"
  | .srli _ _ _ => "SRLI"
  | .srai _ _ _ => "SRAI"
  | .add _ _ _ => "ADD"
  | .sub _ _ _ => "SUB"
  | .sll _ _ _ => "SLL"
  | .slt _ _ _ => "SLT"
  | .sltu _ _ _ => "SLTU"
  | .xor _ _ _ => "XOR"
  | .srl _ _ _ => "SRL"
  | .sra _ _ _ => "SRA"
  | .or _ _ _ => "OR"
  | .and _ _ _ => "AND"
  | .fence _ _ _ _ _ => "FENCE"
  | .fenceI _ _ _ => "FENCE.I"
  | .ecall => "ECALL"
  | .ebreak => "EBREAK"
  | .csrrw _ _ _ => "CSRRW"
  | .csrrs _ _ _ => "CSRRS"
  | .csrrc _ _ _ => "CSRRC"
  | .csrrwi _ _ _ => "CSRRWI"
  | .csrrsi _ _ _ => "CSRRSI"
  | .csrrci _ _ _ => "CSRRCI"
  | .mret => "MRET"
  | .sret => "SRET"
  | .wfi => "WFI"
  | .sfenceVma _ _ => "SFENCE.VMA"
  | .mul _ _ _ => "MUL"
  | .mulh _ _ _ => "MULH"
  | .mulhsu _ _ _ => "MULHSU"
  | .mulhu _ _ _ => "MULHU"
  | .div _ _ _ => "DIV"
  | .divu _ _ _ => "DIVU"
  | .rem _ _ _ => "REM"
  | .remu _ _ _ => "REMU"
  | .loadWordF3_110 _ _ _ => "LOAD.f3-110__acts_as_LW"
  | .loadSize11 _ _ _ _ => "LOAD.size-11"
  | .jalrF3Nonzero _ _ _ _ => "JALR.f3-nonzero"
  | .branchF3_01x _ _ _ _ => "BRANCH.f3-01x__never_taken"
  | .storeSize11 _ _ _ _ => "STORE.size-11"
  | .storeByteF3_100 _ _ _ => "STORE.f3-100__acts_as_SB"
  | .storeHalfF3_101 _ _ _ => "STORE.f3-101__acts_as_SH"
  | .storeWordF3_110 _ _ _ => "STORE.f3-110__acts_as_SW"
  | .slliAnyFunct7 _ _ _ _ => "SLLI.any-funct7"
  | .sraiAnyFunct7 _ _ _ _ => "SRAI.any-funct7"
  | .opAddAnyFunct7 _ _ _ _ => "OP.ADD.any-funct7"
  | .opSubAnyFunct7 _ _ _ _ => "OP.SUB.any-funct7"
  | .opSrlAnyFunct7 _ _ _ _ => "OP.SRL.any-funct7"
  | .opSraAnyFunct7 _ _ _ _ => "OP.SRA.any-funct7"
  | .opSllAnyFunct7 _ _ _ _ => "OP.SLL.any-funct7"
  | .opSltAnyFunct7 _ _ _ _ => "OP.SLT.any-funct7"
  | .opSltuAnyFunct7 _ _ _ _ => "OP.SLTU.any-funct7"
  | .opXorAnyFunct7 _ _ _ _ => "OP.XOR.any-funct7"
  | .opOrAnyFunct7 _ _ _ _ => "OP.OR.any-funct7"
  | .opAndAnyFunct7 _ _ _ _ => "OP.AND.any-funct7"
  | .systemOther _ => "SYSTEM.other"
  | .srxiBadFunct7 _ _ _ _ => "OP-IMM.SRxI.bad-funct7"
  | .unrecognised _ => "DEFAULT__unrecognised"

end Sys2Proof
end

