-- ==== Sys2Proof/Machine/Alu.lean ====
section
/-! DEFINITION. The ALU (40_datapath.md R142 to R144). -/

namespace Sys2Proof.Machine

/-- The ALU's function codes (R110, R143; C1). -/
inductive AluFunc where
  | add
  | sub
  | and
  | or
  | xor
  | slt
  | sltu
  | sll
  | srl
  | sra
  | invalid
deriving DecidableEq, Repr

/-- R142: the shift amount, the low 5 bits of operand B. -/
def shiftAmount (b : Word) : Nat := (b.extractLsb' 0 5).toNat

/-- A truth value as a word: 1 or 0 (R9). -/
def boolWord (p : Bool) : Word := if p then 1#32 else 0#32

/-- R143: a pure function of the function code and the two operands; it wraps and never faults (R144). -/
def alu (f : AluFunc) (a b : Word) : Word :=
  match f with
  | .add => a + b
  | .sub => a - b
  | .and => a &&& b
  | .or => a ||| b
  | .xor => a ^^^ b
  | .slt => boolWord (a.slt b)
  | .sltu => boolWord (a.ult b)
  | .sll => a <<< shiftAmount b
  | .srl => a >>> shiftAmount b
  | .sra => a.sshiftRight (shiftAmount b)
  | .invalid => 0#32

end Sys2Proof.Machine
end

