-- ==== Sys2Proof/Machine/Flags.lean ====
section
/-! DEFINITION. BranchFlags and the branch decision (40_datapath.md R145, R152). The hardware stores no flag (R40): these are computed
anew every cycle. -/

namespace Sys2Proof.Machine

/-- The ALU's three comparison outputs (R145). -/
structure BranchFlags where
  eq         : Bool
  ltSigned   : Bool
  ltUnsigned : Bool
deriving DecidableEq, Repr

/-- R145: from the raw register values a = x[rs1] and b = x[rs2], never from the ALU's operands (R146). -/
def branchFlags (a b : Word) : BranchFlags :=
  { eq := a == b, ltSigned := a.slt b, ltUnsigned := a.ult b }

/-- R152: taken, from mem_mode (= funct3) and the flags. -/
def taken (memMode : BitVec 3) (fl : BranchFlags) : Bool :=
  if memMode = 0b000#3 then fl.eq
  else if memMode = 0b001#3 then !fl.eq
  else if memMode = 0b100#3 then fl.ltSigned
  else if memMode = 0b101#3 then !fl.ltSigned
  else if memMode = 0b110#3 then fl.ltUnsigned
  else if memMode = 0b111#3 then !fl.ltUnsigned
  else false

end Sys2Proof.Machine
end

