-- ==== Sys2Proof/Machine/Operands.lean ====
section
/-! DEFINITION. Immediate operands (30_encoding.md R10, R93 to R98) and the widening of loaded data (20_memory.md R68). -/

namespace Sys2Proof.Machine

/-- immI (R93): sign-extended from bit 11. -/
def immI (imm : BitVec 12) : Word := imm.signExtend 32
/-- immS (R95): sign-extended from bit 11. -/
def immS (imm : BitVec 12) : Word := imm.signExtend 32
/-- immB (R96): sign-extended from bit 12. -/
def immB (imm : BitVec 13) : Word := imm.signExtend 32
/-- immU (R97): `imm20 ++ 0^12`. -/
def immU (imm20 : BitVec 20) : Word := imm20 ++ 0#12
/-- immJ (R98): sign-extended from bit 20. -/
def immJ (imm : BitVec 21) : Word := imm.signExtend 32
/-- immSH (R94): zero-extended. -/
def immSH (shamt : BitVec 5) : Word := shamt.setWidth 32

/-- The size of a data access (R68, R69, R72). Size code 11 is none of them (R70). -/
inductive AccessSize where
  | byte
  | half
  | word
deriving DecidableEq, Repr

/-- The number of bytes moved. -/
def AccessSize.bytes : AccessSize → Nat
  | .byte => 1
  | .half => 2
  | .word => 4

/-- How loaded data is widened to 32 bits (R68): mem_mode bit 2 = 0 is sign-extension, 1 is zero-extension (D15). -/
inductive Widening where
  | sign
  | zero
deriving DecidableEq, Repr

/-- R68: `load_data`, from the bytes read, held in the low bits of `v` with zeros above. -/
def widen (size : AccessSize) (how : Widening) (v : Word) : Word :=
  match size, how with
  | .byte, .sign => (v.setWidth 8).signExtend 32
  | .half, .sign => (v.setWidth 16).signExtend 32
  | .byte, .zero => (v.setWidth 8).setWidth 32
  | .half, .zero => (v.setWidth 16).setWidth 32
  | .word, _ => v

end Sys2Proof.Machine
end

