-- ==== Sys2Proof/Config.lean ====
section
/-! DEFINITION. The parameters of the hardware (00_scope.md R7) that the spec leaves to the model's user. They are plain data, held
unchanged in `State.cfg`, so that every statement about all states holds for all their values. `BYTE_ORDER` is fixed (little-endian, D1)
and has no field; `IMEM` and `DMEM_INIT` are the arguments of `State.launch`. -/

namespace Sys2Proof

/-- `MISALIGNED_DATA` (R71, D3): what a LOAD or STORE at an address that is not a multiple of its size does. -/
inductive MisalignedData where
  | fault
  | bytewise
deriving DecidableEq, Repr

/-- `RESET_STORE` (R403, D18): whether the word fetched in a reset cycle commits its register write and store. -/
inductive ResetStore where
  | suppressed
  | performed
deriving DecidableEq, Repr

/-- `OP_FUNCT7_01` (D28, R345 to R352): OP words with funct7 = 0000001 are no-ops, or the model refuses them. -/
inductive OpFunct701 where
  | noop
  | refuse
deriving DecidableEq, Repr

/-- The parameters of R7 that no source and no decision fixes. -/
structure Config where
  /-- `BOOT_ADDR` (R42, R402, D17): the configured boot address, OPEN in the spec. -/
  bootAddr       : Word
  misalignedData : MisalignedData
  resetStore     : ResetStore
  opFunct701     : OpFunct701
deriving DecidableEq, Repr

/-- The configuration of `State.reset`: the spec's defaults where R7 gives one (`MISALIGNED_DATA` = fault, `OP_FUNCT7_01` = noop).
DESIGN CHOICE (log 3, unsafe): `BOOT_ADDR` is OPEN and takes 0 here. DESIGN CHOICE (log 4, unsafe): `RESET_STORE` is left open by the spec
and takes suppressed here. No statement about all states depends on either. -/
def Config.specDefault : Config :=
  { bootAddr := 0, misalignedData := .fault, resetStore := .suppressed, opFunct701 := .noop }

end Sys2Proof
end

