-- ==== Sys2Proof/Machine/State.lean ====
section
/-! DEFINITION. The machine's state as plain data (10_state.md), the reasons a step can stop (60_exceptions.md R371), and the launch state
(70_reset_and_hazards.md R401). -/

namespace Sys2Proof.Machine

/-- Bytes by address. Canonical form (`Memory.wf`, Machine/Ops.lean): addresses strictly rising and below 2^32. An address not listed has
no value: "uninitialised" in data memory (R64), "not defined" in the program image (R62). -/
abbrev Memory := List Host.Cell

/-- The state of the block and what it is connected to. -/
structure State where
  /-- The program counter: the address of the instruction being executed (R37). -/
  pc      : Word
  /-- The register file: 32 words (R30). Read and written only through `State.getX` and `State.setX` (R31 to R33). -/
  x       : Vector Word 32
  /-- Which registers hold a word the program gave them (R46): the spec's "unwritten" mark, the other way round. No instruction reads it. -/
  written : Vector Bool 32
  /-- Data memory (R64). -/
  dmem    : Memory
  /-- The program image `IMEM` as bytes (R62, R63). No instruction writes it (R60). -/
  imem    : Memory
  /-- The reset input (R42, R400): asserted or not at the edge that ends this cycle. No instruction reads or writes it. -/
  rst     : Bool
  /-- The parameters of R7. No instruction reads `BOOT_ADDR` or writes any of them (R42). -/
  cfg     : Config
deriving DecidableEq, Repr

/-- Why the model gives a cycle no meaning (R370, R371). None is a hardware trap (R360). A cycle that faults commits nothing. -/
inductive Fault where
  /-- R62: `IMEM` has no word at `pc` (misaligned, or outside the image). Raised by the fetch. Safe: the hardware goes on with a word the
  spec does not give, the model stops. -/
  | fetchUndefined (pc : Word)
  /-- R70: a LOAD or STORE with size code 11. Raised by `execLoadSize11` and `execStoreSize11`. Safe: the hardware goes on, the model stops. -/
  | memSizeReserved (pc : Word)
  /-- R71: an access that is not naturally aligned, under `MISALIGNED_DATA` = fault. Raised by halfword and word loads and stores. Safe: the
  hardware goes on, the model stops. -/
  | misalignedData (addr : Word)
  /-- R66: a LOAD of a byte that neither `DMEM_INIT` nor a store gave. Raised by every load. Safe: the hardware goes on with a value the spec
  does not give, the model stops. -/
  | uninitialisedMemory (addr : Word)
deriving DecidableEq, Repr

/-- Why the model declines a word. -/
inductive Refusal where
  /-- An instruction whose meaning is not written. Raised by no arm of `exec`: every instruction has its meaning. Safe. -/
  | notModelled (mnemonic : String)
  /-- R371: an OP word with funct7 = 0000001 under `OP_FUNCT7_01` = refuse. Raised by the eight M-extension meanings. Safe: the hardware goes
  on, the model stops. -/
  | funct7_01 (pc : Word)
deriving DecidableEq, Repr

/-- The outcome of an instruction or of a cycle. -/
abbrev Result := Host.Outcome State Fault Refusal

/-- R401: the state every run starts from, for any parameters, program image and initial data. x1..x31 are unwritten, and x0 counts as
written. DESIGN CHOICE (log 1, unsafe): the spec gives x1..x31 no value, and each holds 0 here. -/
def State.launch (cfg : Config) (imem dmem : Memory) : State :=
  { pc := cfg.bootAddr
    x := Vector.replicate 32 0#32
    written := (Vector.replicate 32 false).set 0 true
    dmem := dmem
    imem := imem
    rst := false
    cfg := cfg }

/-- The machine right after reset: the launch state with the spec's default parameters, no program loaded and no data byte given
(log 2, log 3, log 4, log 6). -/
def State.reset : State := State.launch Config.specDefault [] []

end Sys2Proof.Machine
end

