-- ==== Sys2Proof/Machine/Ops.lean ====
section
/-! DEFINITION. The named operations over memory, registers and the PC, and the shared shapes of the meanings. The hardware takes no
exception and returns from none (60_exceptions.md R360, R365, R366), so there is no operation for either. -/

namespace Sys2Proof.Machine

/-! ### Memory (20_memory.md) -/

/-- What an address that is not listed reads as: no value (R62, R64; log 2, safe). -/
def Memory.unlisted : Option Byte := none

/-- The byte at an address. -/
def Memory.read : Memory → Nat → Option Byte
  | [], _ => Memory.unlisted
  | (k, v) :: rest, a => if k = a then some v else Memory.read rest a

/-- The memory with a byte written at an address, its addresses still rising. -/
def Memory.write : Memory → Nat → Byte → Memory
  | [], a, v => [(a, v)]
  | (k, w) :: rest, a, v =>
    if a < k then (a, v) :: (k, w) :: rest
    else if a = k then (a, v) :: rest
    else (k, w) :: Memory.write rest a v

/-- The canonical form: addresses strictly rising, all of them in the space of 2^32 bytes (R64). No entry can equal what an unlisted
address reads as, since that is no byte. -/
abbrev Memory.wf (m : Memory) : Prop :=
  m.Pairwise (fun c d => c.1 < d.1) ∧ ∀ c ∈ m, c.1 < 2 ^ 32

/-- The address of byte `k` of an access at `a`, modulo 2^32 (R71). -/
def byteAddr (a : Word) (k : Nat) : Word := a + BitVec.ofNat 32 k

/-- `MemRead(a, n)` (R66): the bytes at a, a+1, ..., a+n-1, little-endian, in the low 8n bits of a word with zeros above; none when one
of them has no value. -/
def Memory.readLE (m : Memory) (a : Word) : Nat → Option Word
  | 0 => some 0#32
  | n + 1 =>
    match m.readLE a n, m.read (byteAddr a n).toNat with
    | some v, some b => some (v ||| (b.setWidth 32 <<< (8 * n)))
    | _, _ => none

/-- `MemWrite(a, n, v)` (R67): byte `v[8k+7:8k]` to address a+k for k = 0..n-1; all other bytes are unchanged. -/
def Memory.writeLE (m : Memory) (a v : Word) : Nat → Memory
  | 0 => m
  | n + 1 => (m.writeLE a v n).write (byteAddr a n).toNat (v.extractLsb' (8 * n) 8)

/-- `IFetch(pc)` (R61 to R63): the image's word at `pc`, defined when `pc` is a multiple of 4 and the image gives its four bytes. -/
def State.fetch (s : State) : Option Word :=
  if s.pc.toNat % 4 = 0 then s.imem.readLE s.pc 4 else none

/-! ### Registers and the PC (10_state.md) -/

/-- A read port (R31, R32): 0 for index 0, whatever is stored there. -/
def State.getX (s : State) (i : RegIdx) : Word :=
  if i = 0#5 then 0#32 else s.x[i.toNat]

/-- The write port (R31, R33): a write to index 0 is discarded; any other makes the register hold the word (R46). -/
def State.setX (s : State) (i : RegIdx) (v : Word) : State :=
  if i = 0#5 then s else { s with x := s.x.set i.toNat v, written := s.written.set i.toNat true }

/-- R46: the register holds a word the program gave it; index 0 always does. -/
def State.hasWritten (s : State) (i : RegIdx) : Bool := i == 0#5 || s.written[i.toNat]

/-- `pc <- t` (R11): no target's alignment is checked (R164). -/
def State.jump (s : State) (t : Word) : State := { s with pc := t }

/-- `pc <- pc + 4`, modulo 2^32 (R39, R160). -/
def State.advance (s : State) : State := s.jump (s.pc + 4#32)

/-- Data memory replaced. -/
def State.withDmem (s : State) (m : Memory) : State := { s with dmem := m }

/-! ### Data accesses -/

/-- The address of a LOAD or STORE: x[base] + offset, modulo 2^32 (R64, R115, R118). -/
def State.effAddr (s : State) (base : RegIdx) (offset : Word) : Word := s.getX base + offset

/-- R71: the access is not naturally aligned and `MISALIGNED_DATA` = fault. -/
def State.misaligned (s : State) (a : Word) (size : AccessSize) : Bool :=
  s.cfg.misalignedData == .fault && a.toNat % size.bytes != 0

/-! ### Shapes of the meanings -/

/-- `x[rd] <- v; pc <- pc + 4`, together at the edge (R12, R180). -/
def writeAndAdvance (rd : RegIdx) (v : Word) (s : State) : Result := .next (s.setX rd v).advance

/-- OP (47_op.md): `x[rd] <- ALU(f, x[rs1], x[rs2]); pc <- pc + 4`. -/
def aluReg (f : AluFunc) (rd rs1 rs2 : RegIdx) (s : State) : Result :=
  writeAndAdvance rd (alu f (s.getX rs1) (s.getX rs2)) s

/-- OP-IMM (44_op_imm.md): `x[rd] <- ALU(f, x[rs1], imm); pc <- pc + 4`. -/
def aluImm (f : AluFunc) (rd rs1 : RegIdx) (imm : Word) (s : State) : Result :=
  writeAndAdvance rd (alu f (s.getX rs1) imm) s

/-- LOAD (43_loads.md): alignment is checked before contents (R182); with rd = x0 the read is still made. -/
def loadTo (size : AccessSize) (how : Widening) (rd rs1 : RegIdx) (imm : BitVec 12) (s : State) : Result :=
  if s.misaligned (s.effAddr rs1 (immI imm)) size then .fault (.misalignedData (s.effAddr rs1 (immI imm)))
  else
    match s.dmem.readLE (s.effAddr rs1 (immI imm)) size.bytes with
    | some v => writeAndAdvance rd (widen size how v) s
    | none => .fault (.uninitialisedMemory (s.effAddr rs1 (immI imm)))

/-- STORE (46_stores.md): the low 8n bits of x[rs2] to memory; a store never reads memory. -/
def storeFrom (size : AccessSize) (rs1 rs2 : RegIdx) (imm : BitVec 12) (s : State) : Result :=
  if s.misaligned (s.effAddr rs1 (immS imm)) size then .fault (.misalignedData (s.effAddr rs1 (immS imm)))
  else .next (s.withDmem (s.dmem.writeLE (s.effAddr rs1 (immS imm)) (s.getX rs2) size.bytes)).advance

/-- BRANCH (45_branches.md): `if cond then pc <- pc + immB else pc <- pc + 4`, the condition from the BranchFlags of the raw registers. -/
def branchIf (cond : BranchFlags → Bool) (rs1 rs2 : RegIdx) (imm : BitVec 13) (s : State) : Result :=
  .next (if cond (branchFlags (s.getX rs1) (s.getX rs2)) then s.jump (s.pc + immB imm) else s.advance)

/-- `x[rd] <- pc + 4; pc <- t` (42_jumps.md): `t` was computed from the state before the edge. -/
def linkAndJump (rd : RegIdx) (t : Word) (s : State) : Result := .next ((s.setX rd (s.pc + 4#32)).jump t)

/-- The JALR target (R163): the sum with bit 0 cleared; bit 1 is kept. -/
def jalrTarget (s : State) (rs1 : RegIdx) (imm : BitVec 12) : Word := (s.getX rs1 + immI imm) &&& 0xFFFFFFFE#32

/-- The safe default (R120, 48_default_noop.md): `pc <- pc + 4` and nothing else. -/
def safeDefault (s : State) : Result := .next s.advance

/-- The M-extension words (R345 to R352, R371, D28): the safe default, or refused under `OP_FUNCT7_01` = refuse. -/
def opFunct701 (s : State) : Result :=
  match s.cfg.opFunct701 with
  | .noop => safeDefault s
  | .refuse => .refused (.funct7_01 s.pc)

/-- Size code 11 (R70, R225, R283): the model gives the access no meaning. -/
def sizeReserved (s : State) : Result := .fault (.memSizeReserved s.pc)

end Sys2Proof.Machine
end

