-- ==== Sys2Proof/Machine/Branches.lean ====
section
/-! DEFINITION. Conditional branches (45_branches.md). -/

namespace Sys2Proof.Machine

/-- R260: cond = eq. -/
def execBeq (rs1 : RegIdx) (rs2 : RegIdx) (imm : BitVec 13) (s : State) : Result :=
  branchIf (·.eq) rs1 rs2 imm s

/-- R261: cond = not eq. -/
def execBne (rs1 : RegIdx) (rs2 : RegIdx) (imm : BitVec 13) (s : State) : Result :=
  branchIf (!·.eq) rs1 rs2 imm s

/-- R262: cond = lt_signed. -/
def execBlt (rs1 : RegIdx) (rs2 : RegIdx) (imm : BitVec 13) (s : State) : Result :=
  branchIf (·.ltSigned) rs1 rs2 imm s

/-- R263: cond = not lt_signed. -/
def execBge (rs1 : RegIdx) (rs2 : RegIdx) (imm : BitVec 13) (s : State) : Result :=
  branchIf (!·.ltSigned) rs1 rs2 imm s

/-- R264: cond = lt_unsigned. -/
def execBltu (rs1 : RegIdx) (rs2 : RegIdx) (imm : BitVec 13) (s : State) : Result :=
  branchIf (·.ltUnsigned) rs1 rs2 imm s

/-- R265: cond = not lt_unsigned. -/
def execBgeu (rs1 : RegIdx) (rs2 : RegIdx) (imm : BitVec 13) (s : State) : Result :=
  branchIf (!·.ltUnsigned) rs1 rs2 imm s

/-- R266: never taken, whatever the registers hold. -/
def execBranchF3_01x (_f3lo : BitVec 1) (rs1 : RegIdx) (rs2 : RegIdx) (imm : BitVec 13) (s : State) : Result :=
  branchIf (fun _ => false) rs1 rs2 imm s

end Sys2Proof.Machine
end

