-- ==== Sys2Proof/Machine/Jumps.lean ====
section
/-! DEFINITION. Unconditional jumps (42_jumps.md): no delay slot, no alignment check. -/

namespace Sys2Proof.Machine

/-- R210: `x[rd] <- pc + 4; pc <- pc + immJ`. -/
def execJal (rd : RegIdx) (imm : BitVec 21) (s : State) : Result :=
  linkAndJump rd (s.pc + immJ imm) s

/-- R211: `x[rd] <- pc + 4; pc <- (x[rs1] + immI) & 0xFFFFFFFE`, x[rs1] read before the edge. -/
def execJalr (rd : RegIdx) (rs1 : RegIdx) (imm : BitVec 12) (s : State) : Result :=
  linkAndJump rd (jalrTarget s rs1 imm) s

/-- R211, R114: funct3 is ignored; as JALR. -/
def execJalrF3Nonzero (_funct3 : BitVec 3) (rd : RegIdx) (rs1 : RegIdx) (imm : BitVec 12) (s : State) : Result :=
  linkAndJump rd (jalrTarget s rs1 imm) s

end Sys2Proof.Machine
end

