-- ==== Sys2Proof/Machine/Loads.lean ====
section
/-! DEFINITION. Loads (43_loads.md). -/

namespace Sys2Proof.Machine

/-- R220: `x[rd] <- sext_8(MemRead(addr, 1))`. -/
def execLb (rd : RegIdx) (rs1 : RegIdx) (imm : BitVec 12) (s : State) : Result :=
  loadTo .byte .sign rd rs1 imm s

/-- R221: `x[rd] <- sext_16(MemRead(addr, 2))`. -/
def execLh (rd : RegIdx) (rs1 : RegIdx) (imm : BitVec 12) (s : State) : Result :=
  loadTo .half .sign rd rs1 imm s

/-- R222: `x[rd] <- MemRead(addr, 4)`; widening has no effect at 32 bits. -/
def execLw (rd : RegIdx) (rs1 : RegIdx) (imm : BitVec 12) (s : State) : Result :=
  loadTo .word .sign rd rs1 imm s

/-- R223: `x[rd] <- zext_8(MemRead(addr, 1))`. -/
def execLbu (rd : RegIdx) (rs1 : RegIdx) (imm : BitVec 12) (s : State) : Result :=
  loadTo .byte .zero rd rs1 imm s

/-- R224: `x[rd] <- zext_16(MemRead(addr, 2))`. -/
def execLhu (rd : RegIdx) (rs1 : RegIdx) (imm : BitVec 12) (s : State) : Result :=
  loadTo .half .zero rd rs1 imm s

/-- R226: `x[rd] <- MemRead(addr, 4)`; zero-extension has no effect at 32 bits. -/
def execLoadWordF3_110 (rd : RegIdx) (rs1 : RegIdx) (imm : BitVec 12) (s : State) : Result :=
  loadTo .word .zero rd rs1 imm s

/-- R225: `fault MemSizeReserved(pc)`; no state changes. -/
def execLoadSize11 (_f3hi : BitVec 1) (_rd : RegIdx) (_rs1 : RegIdx) (_imm : BitVec 12) (s : State) : Result :=
  sizeReserved s

end Sys2Proof.Machine
end

