-- ==== Sys2Proof/Machine/Op.lean ====
section
/-! DEFINITION. Register-register ALU instructions (47_op.md). -/

namespace Sys2Proof.Machine

/-- R300: `x[rd] <- x[rs1] + x[rs2]`. -/
def execAdd (rd : RegIdx) (rs1 : RegIdx) (rs2 : RegIdx) (s : State) : Result :=
  aluReg .add rd rs1 rs2 s

/-- R301: `x[rd] <- x[rs1] - x[rs2]`. -/
def execSub (rd : RegIdx) (rs1 : RegIdx) (rs2 : RegIdx) (s : State) : Result :=
  aluReg .sub rd rs1 rs2 s

/-- R302: `x[rd] <- x[rs1] << x[rs2][4:0]`. -/
def execSll (rd : RegIdx) (rs1 : RegIdx) (rs2 : RegIdx) (s : State) : Result :=
  aluReg .sll rd rs1 rs2 s

/-- R303: `x[rd] <- (s(x[rs1]) < s(x[rs2])) ? 1 : 0`. -/
def execSlt (rd : RegIdx) (rs1 : RegIdx) (rs2 : RegIdx) (s : State) : Result :=
  aluReg .slt rd rs1 rs2 s

/-- R304: `x[rd] <- (u(x[rs1]) < u(x[rs2])) ? 1 : 0`. -/
def execSltu (rd : RegIdx) (rs1 : RegIdx) (rs2 : RegIdx) (s : State) : Result :=
  aluReg .sltu rd rs1 rs2 s

/-- R305: `x[rd] <- x[rs1] ^ x[rs2]`. -/
def execXor (rd : RegIdx) (rs1 : RegIdx) (rs2 : RegIdx) (s : State) : Result :=
  aluReg .xor rd rs1 rs2 s

/-- R306: `x[rd] <- x[rs1] >>u x[rs2][4:0]`. -/
def execSrl (rd : RegIdx) (rs1 : RegIdx) (rs2 : RegIdx) (s : State) : Result :=
  aluReg .srl rd rs1 rs2 s

/-- R307: `x[rd] <- x[rs1] >>s x[rs2][4:0]`. -/
def execSra (rd : RegIdx) (rs1 : RegIdx) (rs2 : RegIdx) (s : State) : Result :=
  aluReg .sra rd rs1 rs2 s

/-- R308: `x[rd] <- x[rs1] | x[rs2]`. -/
def execOr (rd : RegIdx) (rs1 : RegIdx) (rs2 : RegIdx) (s : State) : Result :=
  aluReg .or rd rs1 rs2 s

/-- R309: `x[rd] <- x[rs1] & x[rs2]`. -/
def execAnd (rd : RegIdx) (rs1 : RegIdx) (rs2 : RegIdx) (s : State) : Result :=
  aluReg .and rd rs1 rs2 s

/-- R310: funct7 is ignored but for bit 5 in funct3 000 and 101; as ADD. -/
def execOpAddAnyFunct7 (_funct7 : BitVec 7) (rd : RegIdx) (rs1 : RegIdx) (rs2 : RegIdx) (s : State) : Result :=
  aluReg .add rd rs1 rs2 s

/-- R310: funct7 is ignored but for bit 5 in funct3 000 and 101; as SUB. -/
def execOpSubAnyFunct7 (_funct7 : BitVec 7) (rd : RegIdx) (rs1 : RegIdx) (rs2 : RegIdx) (s : State) : Result :=
  aluReg .sub rd rs1 rs2 s

/-- R310: funct7 is ignored but for bit 5 in funct3 000 and 101; as SLL. -/
def execOpSllAnyFunct7 (_funct7 : BitVec 7) (rd : RegIdx) (rs1 : RegIdx) (rs2 : RegIdx) (s : State) : Result :=
  aluReg .sll rd rs1 rs2 s

/-- R310: funct7 is ignored but for bit 5 in funct3 000 and 101; as SLT. -/
def execOpSltAnyFunct7 (_funct7 : BitVec 7) (rd : RegIdx) (rs1 : RegIdx) (rs2 : RegIdx) (s : State) : Result :=
  aluReg .slt rd rs1 rs2 s

/-- R310: funct7 is ignored but for bit 5 in funct3 000 and 101; as SLTU. -/
def execOpSltuAnyFunct7 (_funct7 : BitVec 7) (rd : RegIdx) (rs1 : RegIdx) (rs2 : RegIdx) (s : State) : Result :=
  aluReg .sltu rd rs1 rs2 s

/-- R310: funct7 is ignored but for bit 5 in funct3 000 and 101; as XOR. -/
def execOpXorAnyFunct7 (_funct7 : BitVec 7) (rd : RegIdx) (rs1 : RegIdx) (rs2 : RegIdx) (s : State) : Result :=
  aluReg .xor rd rs1 rs2 s

/-- R310: funct7 is ignored but for bit 5 in funct3 000 and 101; as SRL. -/
def execOpSrlAnyFunct7 (_funct7 : BitVec 7) (rd : RegIdx) (rs1 : RegIdx) (rs2 : RegIdx) (s : State) : Result :=
  aluReg .srl rd rs1 rs2 s

/-- R310: funct7 is ignored but for bit 5 in funct3 000 and 101; as SRA. -/
def execOpSraAnyFunct7 (_funct7 : BitVec 7) (rd : RegIdx) (rs1 : RegIdx) (rs2 : RegIdx) (s : State) : Result :=
  aluReg .sra rd rs1 rs2 s

/-- R310: funct7 is ignored but for bit 5 in funct3 000 and 101; as OR. -/
def execOpOrAnyFunct7 (_funct7 : BitVec 7) (rd : RegIdx) (rs1 : RegIdx) (rs2 : RegIdx) (s : State) : Result :=
  aluReg .or rd rs1 rs2 s

/-- R310: funct7 is ignored but for bit 5 in funct3 000 and 101; as AND. -/
def execOpAndAnyFunct7 (_funct7 : BitVec 7) (rd : RegIdx) (rs1 : RegIdx) (rs2 : RegIdx) (s : State) : Result :=
  aluReg .and rd rs1 rs2 s

end Sys2Proof.Machine
end

