-- ==== Sys2Proof/Machine/OpImm.lean ====
section
/-! DEFINITION. Register-immediate ALU instructions (44_op_imm.md). -/

namespace Sys2Proof.Machine

/-- R240: `x[rd] <- x[rs1] + immI`. -/
def execAddi (rd : RegIdx) (rs1 : RegIdx) (imm : BitVec 12) (s : State) : Result :=
  aluImm .add rd rs1 (immI imm) s

/-- R241: `x[rd] <- (s(x[rs1]) < s(immI)) ? 1 : 0`. -/
def execSlti (rd : RegIdx) (rs1 : RegIdx) (imm : BitVec 12) (s : State) : Result :=
  aluImm .slt rd rs1 (immI imm) s

/-- R242: `x[rd] <- (u(x[rs1]) < u(immI)) ? 1 : 0`. -/
def execSltiu (rd : RegIdx) (rs1 : RegIdx) (imm : BitVec 12) (s : State) : Result :=
  aluImm .sltu rd rs1 (immI imm) s

/-- R243: `x[rd] <- x[rs1] ^ immI`. -/
def execXori (rd : RegIdx) (rs1 : RegIdx) (imm : BitVec 12) (s : State) : Result :=
  aluImm .xor rd rs1 (immI imm) s

/-- R244: `x[rd] <- x[rs1] | immI`. -/
def execOri (rd : RegIdx) (rs1 : RegIdx) (imm : BitVec 12) (s : State) : Result :=
  aluImm .or rd rs1 (immI imm) s

/-- R245: `x[rd] <- x[rs1] & immI`. -/
def execAndi (rd : RegIdx) (rs1 : RegIdx) (imm : BitVec 12) (s : State) : Result :=
  aluImm .and rd rs1 (immI imm) s

/-- R246: `x[rd] <- x[rs1] << shamt`. -/
def execSlli (rd : RegIdx) (rs1 : RegIdx) (shamt : BitVec 5) (s : State) : Result :=
  aluImm .sll rd rs1 (immSH shamt) s

/-- R247: `x[rd] <- x[rs1] >>u shamt`. -/
def execSrli (rd : RegIdx) (rs1 : RegIdx) (shamt : BitVec 5) (s : State) : Result :=
  aluImm .srl rd rs1 (immSH shamt) s

/-- R248: `x[rd] <- x[rs1] >>s shamt`. -/
def execSrai (rd : RegIdx) (rs1 : RegIdx) (shamt : BitVec 5) (s : State) : Result :=
  aluImm .sra rd rs1 (immSH shamt) s

/-- R249: `x[rd] <- x[rs1] << shamt` whatever funct7 is, as SLLI (R246). -/
def execSlliAnyFunct7 (_funct7 : BitVec 7) (rd : RegIdx) (rs1 : RegIdx) (shamt : BitVec 5) (s : State) : Result :=
  aluImm .sll rd rs1 (immSH shamt) s

/-- R250: `x[rd] <- x[rs1] >>s shamt` whatever the other funct7 bits are, as SRAI (R248). -/
def execSraiAnyFunct7 (_funct7 : BitVec 7) (rd : RegIdx) (rs1 : RegIdx) (shamt : BitVec 5) (s : State) : Result :=
  aluImm .sra rd rs1 (immSH shamt) s

end Sys2Proof.Machine
end

