-- ==== Sys2Proof/Machine/SafeDefault.lean ====
section
/-! DEFINITION. Encodings that decode to the safe default (48_default_noop.md). Their fields are not read (R120). -/

namespace Sys2Proof.Machine

/-- R330: `pc <- pc + 4`; no ordering is needed (R78). -/
def execFence (_fm : BitVec 4) (_pred : BitVec 4) (_succ : BitVec 4) (_rs1 : RegIdx) (_rd : RegIdx) (s : State) : Result :=
  safeDefault s

/-- R331: `pc <- pc + 4`; it makes no store visible to fetch (R80). -/
def execFenceI (_imm : BitVec 12) (_rs1 : RegIdx) (_rd : RegIdx) (s : State) : Result :=
  safeDefault s

/-- R332: `pc <- pc + 4`; no environment-call exception. -/
def execEcall (s : State) : Result :=
  safeDefault s

/-- R333: `pc <- pc + 4`; no breakpoint exception. -/
def execEbreak (s : State) : Result :=
  safeDefault s

/-- R334: `pc <- pc + 4`; rd is not written and no register is read (R41). -/
def execCsrrw (_rd : RegIdx) (_rs1 : RegIdx) (_csr : BitVec 12) (s : State) : Result :=
  safeDefault s

/-- R335: `pc <- pc + 4`; rd is not written and no register is read (R41). -/
def execCsrrs (_rd : RegIdx) (_rs1 : RegIdx) (_csr : BitVec 12) (s : State) : Result :=
  safeDefault s

/-- R336: `pc <- pc + 4`; rd is not written and no register is read (R41). -/
def execCsrrc (_rd : RegIdx) (_rs1 : RegIdx) (_csr : BitVec 12) (s : State) : Result :=
  safeDefault s

/-- R337: `pc <- pc + 4`; rd is not written and no register is read (R41). -/
def execCsrrwi (_rd : RegIdx) (_uimm : BitVec 5) (_csr : BitVec 12) (s : State) : Result :=
  safeDefault s

/-- R338: `pc <- pc + 4`; rd is not written and no register is read (R41). -/
def execCsrrsi (_rd : RegIdx) (_uimm : BitVec 5) (_csr : BitVec 12) (s : State) : Result :=
  safeDefault s

/-- R339: `pc <- pc + 4`; rd is not written and no register is read (R41). -/
def execCsrrci (_rd : RegIdx) (_uimm : BitVec 5) (_csr : BitVec 12) (s : State) : Result :=
  safeDefault s

/-- R340: `pc <- pc + 4`; no trap state exists (R366). -/
def execMret (s : State) : Result :=
  safeDefault s

/-- R341: `pc <- pc + 4`; no trap state exists (R366). -/
def execSret (s : State) : Result :=
  safeDefault s

/-- R342: `pc <- pc + 4`; it does not wait (R368). -/
def execWfi (s : State) : Result :=
  safeDefault s

/-- R343: `pc <- pc + 4`; no translation exists (R76). -/
def execSfenceVma (_rs1 : RegIdx) (_rs2 : RegIdx) (s : State) : Result :=
  safeDefault s

/-- R344: `pc <- pc + 4`; any other SYSTEM word. -/
def execSystemOther (_bits : BitVec 25) (s : State) : Result :=
  safeDefault s

/-- R353: `pc <- pc + 4`; rd is not written (D9). -/
def execSrxiBadFunct7 (_funct7 : BitVec 7) (_rd : RegIdx) (_rs1 : RegIdx) (_shamt : BitVec 5) (s : State) : Result :=
  safeDefault s

/-- R354: `pc <- pc + 4`; there is no illegal-instruction exception. -/
def execUnrecognised (_word : Word) (s : State) : Result :=
  safeDefault s

/-- R345: `pc <- pc + 4`, rd is not written; refused under `OP_FUNCT7_01` = refuse. -/
def execMul (_rd : RegIdx) (_rs1 : RegIdx) (_rs2 : RegIdx) (s : State) : Result :=
  opFunct701 s

/-- R346: `pc <- pc + 4`, rd is not written; refused under `OP_FUNCT7_01` = refuse. -/
def execMulh (_rd : RegIdx) (_rs1 : RegIdx) (_rs2 : RegIdx) (s : State) : Result :=
  opFunct701 s

/-- R347: `pc <- pc + 4`, rd is not written; refused under `OP_FUNCT7_01` = refuse. -/
def execMulhsu (_rd : RegIdx) (_rs1 : RegIdx) (_rs2 : RegIdx) (s : State) : Result :=
  opFunct701 s

/-- R348: `pc <- pc + 4`, rd is not written; refused under `OP_FUNCT7_01` = refuse. -/
def execMulhu (_rd : RegIdx) (_rs1 : RegIdx) (_rs2 : RegIdx) (s : State) : Result :=
  opFunct701 s

/-- R349: `pc <- pc + 4`, rd is not written; refused under `OP_FUNCT7_01` = refuse. -/
def execDiv (_rd : RegIdx) (_rs1 : RegIdx) (_rs2 : RegIdx) (s : State) : Result :=
  opFunct701 s

/-- R350: `pc <- pc + 4`, rd is not written; refused under `OP_FUNCT7_01` = refuse. -/
def execDivu (_rd : RegIdx) (_rs1 : RegIdx) (_rs2 : RegIdx) (s : State) : Result :=
  opFunct701 s

/-- R351: `pc <- pc + 4`, rd is not written; refused under `OP_FUNCT7_01` = refuse. -/
def execRem (_rd : RegIdx) (_rs1 : RegIdx) (_rs2 : RegIdx) (s : State) : Result :=
  opFunct701 s

/-- R352: `pc <- pc + 4`, rd is not written; refused under `OP_FUNCT7_01` = refuse. -/
def execRemu (_rd : RegIdx) (_rs1 : RegIdx) (_rs2 : RegIdx) (s : State) : Result :=
  opFunct701 s

end Sys2Proof.Machine
end

