-- ==== Sys2Proof/Machine/Stores.lean ====
section
/-! DEFINITION. Stores (46_stores.md). -/

namespace Sys2Proof.Machine

/-- R280: `MemWrite(addr, 1, x[rs2])`. -/
def execSb (rs1 : RegIdx) (rs2 : RegIdx) (imm : BitVec 12) (s : State) : Result :=
  storeFrom .byte rs1 rs2 imm s

/-- R281: `MemWrite(addr, 2, x[rs2])`. -/
def execSh (rs1 : RegIdx) (rs2 : RegIdx) (imm : BitVec 12) (s : State) : Result :=
  storeFrom .half rs1 rs2 imm s

/-- R282: `MemWrite(addr, 4, x[rs2])`. -/
def execSw (rs1 : RegIdx) (rs2 : RegIdx) (imm : BitVec 12) (s : State) : Result :=
  storeFrom .word rs1 rs2 imm s

/-- R284: as SB. -/
def execStoreByteF3_100 (rs1 : RegIdx) (rs2 : RegIdx) (imm : BitVec 12) (s : State) : Result :=
  storeFrom .byte rs1 rs2 imm s

/-- R284: as SH. -/
def execStoreHalfF3_101 (rs1 : RegIdx) (rs2 : RegIdx) (imm : BitVec 12) (s : State) : Result :=
  storeFrom .half rs1 rs2 imm s

/-- R284: as SW. -/
def execStoreWordF3_110 (rs1 : RegIdx) (rs2 : RegIdx) (imm : BitVec 12) (s : State) : Result :=
  storeFrom .word rs1 rs2 imm s

/-- R283: `fault MemSizeReserved(pc)`; no state changes. -/
def execStoreSize11 (_f3hi : BitVec 1) (_rs1 : RegIdx) (_rs2 : RegIdx) (_imm : BitVec 12) (s : State) : Result :=
  sizeReserved s

end Sys2Proof.Machine
end

