-- ==== Sys2Proof/Machine/UpperImmediate.lean ====
section
/-! DEFINITION. Upper-immediate instructions (41_upper_immediate.md). -/

namespace Sys2Proof.Machine

/-- R200: `x[rd] <- inst[31:12] ++ 0^12`. -/
def execLui (rd : RegIdx) (imm20 : BitVec 20) (s : State) : Result :=
  writeAndAdvance rd (immU imm20) s

/-- R201: `x[rd] <- pc + (inst[31:12] ++ 0^12)`, pc this instruction's own address. -/
def execAuipc (rd : RegIdx) (imm20 : BitVec 20) (s : State) : Result :=
  writeAndAdvance rd (s.pc + immU imm20) s

end Sys2Proof.Machine
end

