-- ==== Sys2Proof/Machine/Dispatch.lean ====
section
/-! DEFINITION. One arm per instruction: each is one direct call of that instruction's meaning. -/

namespace Sys2Proof.Machine

def exec (i : Instr) (s : State) : Host.Outcome State Fault Refusal :=
  match i with
  | .lui rd imm20 => Sys2Proof.Machine.execLui rd imm20 s
  | .auipc rd imm20 => Sys2Proof.Machine.execAuipc rd imm20 s
  | .jal rd imm => Sys2Proof.Machine.execJal rd imm s
  | .jalr rd rs1 imm => Sys2Proof.Machine.execJalr rd rs1 imm s
  | .beq rs1 rs2 imm => Sys2Proof.Machine.execBeq rs1 rs2 imm s
  | .bne rs1 rs2 imm => Sys2Proof.Machine.execBne rs1 rs2 imm s
  | .blt rs1 rs2 imm => Sys2Proof.Machine.execBlt rs1 rs2 imm s
  | .bge rs1 rs2 imm => Sys2Proof.Machine.execBge rs1 rs2 imm s
  | .bltu rs1 rs2 imm => Sys2Proof.Machine.execBltu rs1 rs2 imm s
  | .bgeu rs1 rs2 imm => Sys2Proof.Machine.execBgeu rs1 rs2 imm s
  | .lb rd rs1 imm => Sys2Proof.Machine.execLb rd rs1 imm s
  | .lh rd rs1 imm => Sys2Proof.Machine.execLh rd rs1 imm s
  | .lw rd rs1 imm => Sys2Proof.Machine.execLw rd rs1 imm s
  | .lbu rd rs1 imm => Sys2Proof.Machine.execLbu rd rs1 imm s
  | .lhu rd rs1 imm => Sys2Proof.Machine.execLhu rd rs1 imm s
  | .sb rs1 rs2 imm => Sys2Proof.Machine.execSb rs1 rs2 imm s
  | .sh rs1 rs2 imm => Sys2Proof.Machine.execSh rs1 rs2 imm s
  | .sw rs1 rs2 imm => Sys2Proof.Machine.execSw rs1 rs2 imm s
  | .addi rd rs1 imm => Sys2Proof.Machine.execAddi rd rs1 imm s
  | .slti rd rs1 imm => Sys2Proof.Machine.execSlti rd rs1 imm s
  | .sltiu rd rs1 imm => Sys2Proof.Machine.execSltiu rd rs1 imm s
  | .xori rd rs1 imm => Sys2Proof.Machine.execXori rd rs1 imm s
  | .ori rd rs1 imm => Sys2Proof.Machine.execOri rd rs1 imm s
  | .andi rd rs1 imm => Sys2Proof.Machine.execAndi rd rs1 imm s
  | .slli rd rs1 shamt => Sys2Proof.Machine.execSlli rd rs1 shamt s
  | .srli rd rs1 shamt => Sys2Proof.Machine.execSrli rd rs1 shamt s
  | .srai rd rs1 shamt => Sys2Proof.Machine.execSrai rd rs1 shamt s
  | .add rd rs1 rs2 => Sys2Proof.Machine.execAdd rd rs1 rs2 s
  | .sub rd rs1 rs2 => Sys2Proof.Machine.execSub rd rs1 rs2 s
  | .sll rd rs1 rs2 => Sys2Proof.Machine.execSll rd rs1 rs2 s
  | .slt rd rs1 rs2 => Sys2Proof.Machine.execSlt rd rs1 rs2 s
  | .sltu rd rs1 rs2 => Sys2Proof.Machine.execSltu rd rs1 rs2 s
  | .xor rd rs1 rs2 => Sys2Proof.Machine.execXor rd rs1 rs2 s
  | .srl rd rs1 rs2 => Sys2Proof.Machine.execSrl rd rs1 rs2 s
  | .sra rd rs1 rs2 => Sys2Proof.Machine.execSra rd rs1 rs2 s
  | .or rd rs1 rs2 => Sys2Proof.Machine.execOr rd rs1 rs2 s
  | .and rd rs1 rs2 => Sys2Proof.Machine.execAnd rd rs1 rs2 s
  | .fence fm pred succ rs1 rd => Sys2Proof.Machine.execFence fm pred succ rs1 rd s
  | .fenceI imm rs1 rd => Sys2Proof.Machine.execFenceI imm rs1 rd s
  | .ecall => Sys2Proof.Machine.execEcall s
  | .ebreak => Sys2Proof.Machine.execEbreak s
  | .csrrw rd rs1 csr => Sys2Proof.Machine.execCsrrw rd rs1 csr s
  | .csrrs rd rs1 csr => Sys2Proof.Machine.execCsrrs rd rs1 csr s
  | .csrrc rd rs1 csr => Sys2Proof.Machine.execCsrrc rd rs1 csr s
  | .csrrwi rd uimm csr => Sys2Proof.Machine.execCsrrwi rd uimm csr s
  | .csrrsi rd uimm csr => Sys2Proof.Machine.execCsrrsi rd uimm csr s
  | .csrrci rd uimm csr => Sys2Proof.Machine.execCsrrci rd uimm csr s
  | .mret => Sys2Proof.Machine.execMret s
  | .sret => Sys2Proof.Machine.execSret s
  | .wfi => Sys2Proof.Machine.execWfi s
  | .sfenceVma rs1 rs2 => Sys2Proof.Machine.execSfenceVma rs1 rs2 s
  | .mul rd rs1 rs2 => Sys2Proof.Machine.execMul rd rs1 rs2 s
  | .mulh rd rs1 rs2 => Sys2Proof.Machine.execMulh rd rs1 rs2 s
  | .mulhsu rd rs1 rs2 => Sys2Proof.Machine.execMulhsu rd rs1 rs2 s
  | .mulhu rd rs1 rs2 => Sys2Proof.Machine.execMulhu rd rs1 rs2 s
  | .div rd rs1 rs2 => Sys2Proof.Machine.execDiv rd rs1 rs2 s
  | .divu rd rs1 rs2 => Sys2Proof.Machine.execDivu rd rs1 rs2 s
  | .rem rd rs1 rs2 => Sys2Proof.Machine.execRem rd rs1 rs2 s
  | .remu rd rs1 rs2 => Sys2Proof.Machine.execRemu rd rs1 rs2 s
  | .loadWordF3_110 rd rs1 imm => Sys2Proof.Machine.execLoadWordF3_110 rd rs1 imm s
  | .loadSize11 f3hi rd rs1 imm => Sys2Proof.Machine.execLoadSize11 f3hi rd rs1 imm s
  | .jalrF3Nonzero funct3 rd rs1 imm => Sys2Proof.Machine.execJalrF3Nonzero funct3 rd rs1 imm s
  | .branchF3_01x f3lo rs1 rs2 imm => Sys2Proof.Machine.execBranchF3_01x f3lo rs1 rs2 imm s
  | .storeSize11 f3hi rs1 rs2 imm => Sys2Proof.Machine.execStoreSize11 f3hi rs1 rs2 imm s
  | .storeByteF3_100 rs1 rs2 imm => Sys2Proof.Machine.execStoreByteF3_100 rs1 rs2 imm s
  | .storeHalfF3_101 rs1 rs2 imm => Sys2Proof.Machine.execStoreHalfF3_101 rs1 rs2 imm s
  | .storeWordF3_110 rs1 rs2 imm => Sys2Proof.Machine.execStoreWordF3_110 rs1 rs2 imm s
  | .slliAnyFunct7 funct7 rd rs1 shamt => Sys2Proof.Machine.execSlliAnyFunct7 funct7 rd rs1 shamt s
  | .sraiAnyFunct7 funct7 rd rs1 shamt => Sys2Proof.Machine.execSraiAnyFunct7 funct7 rd rs1 shamt s
  | .opAddAnyFunct7 funct7 rd rs1 rs2 => Sys2Proof.Machine.execOpAddAnyFunct7 funct7 rd rs1 rs2 s
  | .opSubAnyFunct7 funct7 rd rs1 rs2 => Sys2Proof.Machine.execOpSubAnyFunct7 funct7 rd rs1 rs2 s
  | .opSrlAnyFunct7 funct7 rd rs1 rs2 => Sys2Proof.Machine.execOpSrlAnyFunct7 funct7 rd rs1 rs2 s
  | .opSraAnyFunct7 funct7 rd rs1 rs2 => Sys2Proof.Machine.execOpSraAnyFunct7 funct7 rd rs1 rs2 s
  | .opSllAnyFunct7 funct7 rd rs1 rs2 => Sys2Proof.Machine.execOpSllAnyFunct7 funct7 rd rs1 rs2 s
  | .opSltAnyFunct7 funct7 rd rs1 rs2 => Sys2Proof.Machine.execOpSltAnyFunct7 funct7 rd rs1 rs2 s
  | .opSltuAnyFunct7 funct7 rd rs1 rs2 => Sys2Proof.Machine.execOpSltuAnyFunct7 funct7 rd rs1 rs2 s
  | .opXorAnyFunct7 funct7 rd rs1 rs2 => Sys2Proof.Machine.execOpXorAnyFunct7 funct7 rd rs1 rs2 s
  | .opOrAnyFunct7 funct7 rd rs1 rs2 => Sys2Proof.Machine.execOpOrAnyFunct7 funct7 rd rs1 rs2 s
  | .opAndAnyFunct7 funct7 rd rs1 rs2 => Sys2Proof.Machine.execOpAndAnyFunct7 funct7 rd rs1 rs2 s
  | .systemOther bits => Sys2Proof.Machine.execSystemOther bits s
  | .srxiBadFunct7 funct7 rd rs1 shamt => Sys2Proof.Machine.execSrxiBadFunct7 funct7 rd rs1 shamt s
  | .unrecognised word => Sys2Proof.Machine.execUnrecognised word s

end Sys2Proof.Machine
end

