-- ==== Sys2Proof/Machine/Reset.lean ====
section
/-! DEFINITION. Reset while running (70_reset_and_hazards.md R400, R403). -/

namespace Sys2Proof.Machine

/-- An edge at which reset is asserted: pc := BOOT_ADDR, whatever the cycle selected (R164, R400); registers are kept (R403). `cycle` is
what the cycle would do without reset. Under `RESET_STORE` = performed its register write and store commit and only the PC is overridden.
Under suppressed the fetched word has no effect, so its outcome is not looked at. DEDUCED (log 10, unsafe): a cycle that would end in a
model outcome does so under performed, and does not under suppressed. -/
def resetEdge (s : State) (cycle : Result) : Result :=
  match s.cfg.resetStore, cycle with
  | .suppressed, _ => .next (s.jump s.cfg.bootAddr)
  | .performed, .next t => .next (t.jump s.cfg.bootAddr)
  | .performed, .fault r => .fault r
  | .performed, .refused r => .refused r

end Sys2Proof.Machine
end

