-- ==== Sys2Proof/Machine/Step.lean ====
section
/-! DEFINITION. One step: one clock cycle (40_datapath.md R180, R181; 70_reset_and_hazards.md R424). -/

namespace Sys2Proof.Machine

/-- The cycle with reset deasserted: fetch, decode, execute (R180). -/
def runCycle (s : State) : Host.Outcome State Fault Refusal :=
  match s.fetch with
  | some w => exec (decode w) s
  | none => .fault (.fetchUndefined s.pc)

/-- One clock cycle, by the reset input (R164, R400). -/
def step (s : State) : Host.Outcome State Fault Refusal :=
  if s.rst then resetEdge s (runCycle s) else runCycle s

/-- `s` with an instruction loaded where the next step fetches: the four bytes of the image at `pc`, reset deasserted (an asserted reset
would make the step a reset edge). A `pc` that is not a multiple of 4 has no word in the image (R62): it is taken to the word it lies in
(log 6). Loading a program is the outside world's (R410). -/
def State.withFetchWord (s : State) (nbits w : Nat) : State :=
  let pc := s.pc &&& 0xFFFFFFFC#32
  { s with pc := pc, rst := false, imem := s.imem.writeLE pc (tableWord nbits w) 4 }

end Sys2Proof.Machine
end

