-- ==== Sys2Proof/Machine/Datapath.lean ====
section
/-! DEFINITION. The block as the source builds it, component by component (40_datapath.md): the Decoder's record, the ControlUnit, the PC
unit, the write-back mux and the cycle. It is a second description of the machine, written from other rules than the meanings
(41 to 48); that the two are one machine is a statement of Certificates/Slice0/Obligations.lean. -/

namespace Sys2Proof.Machine

/-! ### The Decoder's record (R110) -/

/-- op_class (R14, R110); `none` is the value the spec adds for the safe default (D10). -/
inductive OpClass where
  | alu
  | load
  | store
  | branch
  | jal
  | jalr
  | lui
  | auipc
  | none
deriving DecidableEq, Repr

/-- DecodedInstruction (R110): produced anew every cycle, never state (R44). -/
structure DecodedInstruction where
  rs1     : RegIdx
  rs2     : RegIdx
  rd      : RegIdx
  opClass : OpClass
  memMode : BitVec 3
  aluFunc : AluFunc
  aluSrc  : Bool
  imm     : Word
deriving DecidableEq, Repr

/-- The safe default's record (R120). -/
def defaultRecord : DecodedInstruction :=
  { rs1 := 0#5, rs2 := 0#5, rd := 0#5, opClass := .none, memMode := 0#3, aluFunc := .add, aluSrc := false, imm := 0#32 }

/-- alu_func by funct3 for OP and OP-IMM (R116, R119); `alt` selects SUB for funct3 000 and SRA for funct3 101. -/
def aluFuncOf (funct3 : BitVec 3) (alt : Bool) : AluFunc :=
  if funct3 = 0b000#3 then (if alt then .sub else .add)
  else if funct3 = 0b001#3 then .sll
  else if funct3 = 0b010#3 then .slt
  else if funct3 = 0b011#3 then .sltu
  else if funct3 = 0b100#3 then .xor
  else if funct3 = 0b101#3 then (if alt then .sra else .srl)
  else if funct3 = 0b110#3 then .or
  else .and

/-- OP-IMM (R116): the shift-amount immediate for funct3 001 and 101; funct7 is tested for funct3 101 only. -/
def recordOpImm (w : Word) : DecodedInstruction :=
  let shift := fieldFunct3 w == 0b001#3 || fieldFunct3 w == 0b101#3
  if fieldFunct3 w = 0b101#3 ∧ fieldFunct7 w ≠ 0b0000000#7 ∧ (fieldFunct7 w).getLsbD 5 = false then defaultRecord
  else
    { rs1 := fieldRs1 w, rs2 := 0#5, rd := fieldRd w, opClass := .alu, memMode := 0#3,
      aluFunc := aluFuncOf (fieldFunct3 w) (fieldFunct3 w == 0b101#3 && (fieldFunct7 w).getLsbD 5), aluSrc := true,
      imm := if shift then immSH (fieldRs2 w) else immI (fieldImmI w) }

/-- OP (R119): funct7 0000001 is the safe default (C2, D28); otherwise only funct7[5] is tested. -/
def recordOp (w : Word) : DecodedInstruction :=
  if fieldFunct7 w = 0b0000001#7 then defaultRecord
  else
    { rs1 := fieldRs1 w, rs2 := fieldRs2 w, rd := fieldRd w, opClass := .alu, memMode := 0#3,
      aluFunc := aluFuncOf (fieldFunct3 w) ((fieldFunct7 w).getLsbD 5), aluSrc := false, imm := 0#32 }

/-- `Decode : Word32 -> DecodedInstruction` (R110 to R121): the table of R110, row by row. -/
def decodeRecord (w : Word) : DecodedInstruction :=
  if fieldOpcode w = 0b0110111#7 then
    { rs1 := 0#5, rs2 := 0#5, rd := fieldRd w, opClass := .lui, memMode := 0#3, aluFunc := .add, aluSrc := true, imm := immU (fieldImmU w) }
  else if fieldOpcode w = 0b0010111#7 then
    { rs1 := 0#5, rs2 := 0#5, rd := fieldRd w, opClass := .auipc, memMode := 0#3, aluFunc := .add, aluSrc := true, imm := immU (fieldImmU w) }
  else if fieldOpcode w = 0b1101111#7 then
    { rs1 := 0#5, rs2 := 0#5, rd := fieldRd w, opClass := .jal, memMode := 0#3, aluFunc := .add, aluSrc := true, imm := immJ (fieldImmJ w) }
  else if fieldOpcode w = 0b1100111#7 then
    { rs1 := fieldRs1 w, rs2 := 0#5, rd := fieldRd w, opClass := .jalr, memMode := 0#3, aluFunc := .add, aluSrc := true,
      imm := immI (fieldImmI w) }
  else if fieldOpcode w = 0b0000011#7 then
    { rs1 := fieldRs1 w, rs2 := 0#5, rd := fieldRd w, opClass := .load, memMode := fieldFunct3 w, aluFunc := .add, aluSrc := true,
      imm := immI (fieldImmI w) }
  else if fieldOpcode w = 0b0010011#7 then recordOpImm w
  else if fieldOpcode w = 0b1100011#7 then
    { rs1 := fieldRs1 w, rs2 := fieldRs2 w, rd := 0#5, opClass := .branch, memMode := fieldFunct3 w, aluFunc := .sub, aluSrc := true,
      imm := immB (fieldImmB w) }
  else if fieldOpcode w = 0b0100011#7 then
    { rs1 := fieldRs1 w, rs2 := fieldRs2 w, rd := 0#5, opClass := .store, memMode := 0#1 ++ (fieldFunct3 w).extractLsb' 0 2,
      aluFunc := .add, aluSrc := true, imm := immS (fieldImmS w) }
  else if fieldOpcode w = 0b0110011#7 then recordOp w
  else defaultRecord

/-- The optional hook `dec_default` (R122, R362): R120 produced the record. No rule reads it. -/
def decDefault (w : Word) : Bool := (decodeRecord w).opClass == .none

/-! ### The ControlUnit (R150 to R153) -/

/-- pc_op (R150). -/
inductive PcOp where
  | plus4
  | branch
  | jal
  | jalr
deriving DecidableEq, Repr

/-- mem_op (R150). -/
inductive MemOp where
  | none
  | load
  | store
deriving DecidableEq, Repr

/-- wb_select (R150). -/
inductive WbSelect where
  | alu
  | load
  | pc4
deriving DecidableEq, Repr

/-- ControlWord (R150): recomputed every cycle, never state. -/
structure ControlWord where
  pcOp           : PcOp
  memOp          : MemOp
  memMode        : BitVec 3
  regWriteEnable : Bool
  wbSelect       : WbSelect
deriving DecidableEq, Repr

/-- The control table (R151), mem_mode passed through (R153); wb_select is ALU where the source has a dash (C7). -/
def controlTable (opClass : OpClass) (memMode : BitVec 3) (fl : BranchFlags) : ControlWord :=
  match opClass with
  | .alu => { pcOp := .plus4, memOp := .none, memMode := memMode, regWriteEnable := true, wbSelect := .alu }
  | .load => { pcOp := .plus4, memOp := .load, memMode := memMode, regWriteEnable := true, wbSelect := .load }
  | .store => { pcOp := .plus4, memOp := .store, memMode := memMode, regWriteEnable := false, wbSelect := .alu }
  | .branch =>
    { pcOp := if taken memMode fl then .branch else .plus4, memOp := .none, memMode := memMode, regWriteEnable := false, wbSelect := .alu }
  | .jal => { pcOp := .jal, memOp := .none, memMode := memMode, regWriteEnable := true, wbSelect := .pc4 }
  | .jalr => { pcOp := .jalr, memOp := .none, memMode := memMode, regWriteEnable := true, wbSelect := .pc4 }
  | .lui => { pcOp := .plus4, memOp := .none, memMode := memMode, regWriteEnable := true, wbSelect := .alu }
  | .auipc => { pcOp := .plus4, memOp := .none, memMode := memMode, regWriteEnable := true, wbSelect := .alu }
  | .none => { pcOp := .plus4, memOp := .none, memMode := memMode, regWriteEnable := false, wbSelect := .alu }

/-! ### The PC unit, the write-back mux, the data-memory collaborator -/

/-- Next-PC selection (R164): reset overrides every candidate. -/
def nextPc (rst : Bool) (bootAddr : Word) (op : PcOp) (pc4 brTarget jalTarget jalrTarget : Word) : Word :=
  if rst then bootAddr
  else
    match op with
    | .plus4 => pc4
    | .branch => brTarget
    | .jal => jalTarget
    | .jalr => jalrTarget

/-- The WritebackMux (R170). -/
def writeBack (sel : WbSelect) (aluResult loadData pc4 : Word) : Word :=
  match sel with
  | .alu => aluResult
  | .load => loadData
  | .pc4 => pc4

/-- mem_mode's low 2 bits as a size (R68): 11 is none (R70). -/
def sizeOfMode (memMode : BitVec 3) : Option AccessSize :=
  if memMode.extractLsb' 0 2 = 0b00#2 then some .byte
  else if memMode.extractLsb' 0 2 = 0b01#2 then some .half
  else if memMode.extractLsb' 0 2 = 0b10#2 then some .word
  else none

/-- mem_mode's bit 2 as a widening (R68, D15). -/
def wideningOfMode (memMode : BitVec 3) : Widening := if memMode.getLsbD 2 then .zero else .sign

/-- The data-memory collaborator in one cycle (R65 to R71): load_data and the memory after the edge, or the model's fault,
in the order of R182. DESIGN CHOICE (log 18, safe): load_data is 0 where there is no load, and no rule reads it there (R171). -/
def memoryAccess (s : State) (op : MemOp) (memMode : BitVec 3) (addr storeData : Word) : Except Fault (Word × Memory) :=
  match op with
  | .none => .ok (0#32, s.dmem)
  | .load =>
    match sizeOfMode memMode with
    | none => .error (.memSizeReserved s.pc)
    | some size =>
      if s.misaligned addr size then .error (.misalignedData addr)
      else
        match s.dmem.readLE addr size.bytes with
        | none => .error (.uninitialisedMemory addr)
        | some v => .ok (widen size (wideningOfMode memMode) v, s.dmem)
  | .store =>
    match sizeOfMode memMode with
    | none => .error (.memSizeReserved s.pc)
    | some size =>
      if s.misaligned addr size then .error (.misalignedData addr)
      else .ok (0#32, s.dmem.writeLE addr storeData size.bytes)

/-! ### The cycle (R180) -/

/-- R141: the ALU's operand A is the PC for AUIPC, else x[rs1] (D5, C5). -/
def operandA (s : State) (d : DecodedInstruction) : Word := if d.opClass = .auipc then s.pc else s.getX d.rs1

/-- R142: the ALU's operand B. -/
def operandB (s : State) (d : DecodedInstruction) : Word := if d.aluSrc then d.imm else s.getX d.rs2

/-- The ALU result of the cycle (R143). -/
def aluResult (s : State) (d : DecodedInstruction) : Word := alu d.aluFunc (operandA s d) (operandB s d)

/-- The ControlWord of the cycle (R151), its flags from the raw registers (R145). -/
def controlOf (s : State) (d : DecodedInstruction) : ControlWord :=
  controlTable d.opClass d.memMode (branchFlags (s.getX d.rs1) (s.getX d.rs2))

/-- R180 from the decoded record on: everything commits together at the edge, or nothing does. -/
def datapathCycle (s : State) (d : DecodedInstruction) : Result :=
  let res := aluResult s d
  let cw := controlOf s d
  let pc4 := s.pc + 4#32
  match memoryAccess s cw.memOp cw.memMode res (s.getX d.rs2) with
  | .error f => .fault f
  | .ok (ld, mem) =>
    let stored := s.withDmem mem
    let written := if cw.regWriteEnable then stored.setX d.rd (writeBack cw.wbSelect res ld pc4) else stored
    .next (written.jump (nextPc s.rst s.cfg.bootAddr cw.pcOp pc4 (s.pc + d.imm) (s.pc + d.imm) (res &&& 0xFFFFFFFE#32)))

/-- One clock cycle of the block (R180, R182, R400, R403). -/
def datapathStep (s : State) : Result :=
  if s.rst = true ∧ s.cfg.resetStore = .suppressed then .next (s.jump s.cfg.bootAddr)
  else
    match s.fetch with
    | none => .fault (.fetchUndefined s.pc)
    | some w =>
      if s.cfg.opFunct701 = .refuse ∧ fieldOpcode w = 0b0110011#7 ∧ fieldFunct7 w = 0b0000001#7 then .refused (.funct7_01 s.pc)
      else datapathCycle s (decodeRecord w)

end Sys2Proof.Machine
end

