-- ==== Sys2Proof/Machine/Signals.lean ====
section
/-! DEFINITION. The block's output signals (40_datapath.md R185), combinational in the state and the fetched word. -/

namespace Sys2Proof.Machine

/-- The outputs of R185. -/
structure Outputs where
  imemAddr   : Word
  dmemOp     : BitVec 2
  dmemAddr   : Word
  dmemMode   : BitVec 3
  dmemWdata  : Word
  decDefault : Bool
deriving DecidableEq, Repr

/-- The encoding of `dmem_op` (R185, D22): NONE = 00, LOAD = 01, STORE = 10. -/
def dmemOpCode : MemOp → BitVec 2
  | .none => 0b00#2
  | .load => 0b01#2
  | .store => 0b10#2

/-- What the block drives in the cycle in which `inst` is on `imem_rdata`. DESIGN CHOICE (log 18, unsafe for the signal only): R65 and R185 say
what `dmem_wdata` carries for a STORE, x[rs2], and nothing of any other cycle; here it carries x[rs2] of the decoded record in every cycle,
which is 0 where the record has no rs2. -/
def outputs (s : State) (inst : Word) : Outputs :=
  { imemAddr := s.pc
    dmemOp := dmemOpCode (controlOf s (decodeRecord inst)).memOp
    dmemAddr := aluResult s (decodeRecord inst)
    dmemMode := (controlOf s (decodeRecord inst)).memMode
    dmemWdata := s.getX (decodeRecord inst).rs2
    decDefault := decDefault inst }

end Sys2Proof.Machine
end

