-- ==== Sys2Proof/Safety.lean ====
section
/-! DEFINITION. What counts as a safe run: the spec's model outcomes in their order (R182, R371), the premise NoSelfModify (R80), and the
invariant of the machine. -/

namespace Sys2Proof.Machine

/-! ### The model outcomes -/

/-- R371's outcomes, with what each names. -/
inductive ModelOutcome where
  | fetchUndefined (pc : Word)
  | funct7_01 (pc : Word)
  | unwrittenRegister (index : RegIdx)
  | memSizeReserved (pc : Word)
  | misalignedData (addr : Word)
  | uninitialisedMemory (addr : Word)
deriving DecidableEq, Repr

/-- R46: the first of rs1 and rs2 that names an unwritten register. -/
def unwrittenRead (s : State) (d : DecodedInstruction) : Option RegIdx :=
  if s.hasWritten d.rs1 = false then some d.rs1
  else if s.hasWritten d.rs2 = false then some d.rs2
  else none

/-- The outcome of the data access of the cycle, if it has one (R182, items 4 to 6). -/
def accessOutcome (s : State) (d : DecodedInstruction) : Option ModelOutcome :=
  match memoryAccess s (controlOf s d).memOp (controlOf s d).memMode (aluResult s d) (s.getX d.rs2) with
  | .ok _ => none
  | .error (.fetchUndefined pc) => some (.fetchUndefined pc)
  | .error (.memSizeReserved pc) => some (.memSizeReserved pc)
  | .error (.misalignedData a) => some (.misalignedData a)
  | .error (.uninitialisedMemory a) => some (.uninitialisedMemory a)

/-- The spec's outcome of the cycle at `s`, the first in the order of R182; none when the spec gives the cycle a meaning. The step stops at
all of them but `unwrittenRegister`: there it goes on with the register's reset value (log 1). -/
def modelOutcome (s : State) : Option ModelOutcome :=
  match s.fetch with
  | none => some (.fetchUndefined s.pc)
  | some w =>
    if s.cfg.opFunct701 = .refuse ∧ fieldOpcode w = 0b0110011#7 ∧ fieldFunct7 w = 0b0000001#7 then some (.funct7_01 s.pc)
    else
      match unwrittenRead s (decodeRecord w) with
      | some i => some (.unwrittenRegister i)
      | none => accessOutcome s (decodeRecord w)

/-- The spec gives the cycle at `s` a meaning. -/
abbrev SpecDefined (s : State) : Prop := modelOutcome s = none

/-- The same in everything but what unwritten registers hold, about which the model makes no claim (R401). -/
abbrev State.sameWhereWritten (s t : State) : Prop :=
  s.pc = t.pc ∧ s.written = t.written ∧ s.dmem = t.dmem ∧ s.imem = t.imem ∧ s.rst = t.rst ∧ s.cfg = t.cfg ∧
    ∀ i : RegIdx, s.hasWritten i = true → s.getX i = t.getX i

/-! ### NoSelfModify (R80) -/

/-- The addresses of the bytes of an access. -/
def accessBytes (a : Word) (n : Nat) : List Word := (List.range n).map (byteAddr a)

/-- The bytes the instruction would store to at `s`. -/
def storedBytes (s : State) (d : DecodedInstruction) : List Word :=
  match (controlOf s d).memOp, sizeOfMode (controlOf s d).memMode with
  | .store, some size => accessBytes (aluResult s d) size.bytes
  | _, _ => []

/-- The bytes stored to by the step at `s`. -/
def stepStores (s : State) : List Word :=
  match s.fetch with
  | some w => storedBytes s (decodeRecord w)
  | none => []

/-- The bytes of the word the step at `s` fetches. -/
def stepFetches (s : State) : List Word := accessBytes s.pc 4

/-- The states a run of at most `n` steps passes through, the first included. -/
def runStates : Nat → State → List State
  | 0, s => [s]
  | n + 1, s =>
    match step s with
    | .next t => s :: runStates n t
    | .fault _ => [s]
    | .refused _ => [s]

/-- R80, the launch premise: no store of the run writes a byte of a word that the run fetches. -/
abbrev NoSelfModify (n : Nat) (s : State) : Prop :=
  ∀ t ∈ runStates n s, ∀ u ∈ runStates n s, ∀ a ∈ stepStores t, a ∉ stepFetches u

/-- Data memory and the image hold the same bytes at the addresses `A`: what a platform with one memory behind both collaborators has (R60,
R80). -/
abbrev State.unifiedOn (s : State) (A : List Word) : Prop := ∀ a ∈ A, s.dmem.read a.toNat = s.imem.read a.toNat

/-! ### The invariant -/

/-- What every step keeps: both memories in canonical form (R64), register 0 stored as 0 and marked written (R31, R46), and the PC and the
boot address even (R96, R98, R163). -/
structure State.Inv (s : State) : Prop where
  dmem_wf      : s.dmem.wf
  imem_wf      : s.imem.wf
  x0_zero      : s.x[0] = 0#32
  x0_written   : s.written[0] = true
  pc_even      : s.pc.getLsbD 0 = false
  boot_even    : s.cfg.bootAddr.getLsbD 0 = false

/-- R425: the halt idiom, a state whose pc holds `jal x0, 0`. -/
abbrev State.atHaltIdiom (s : State) : Prop := s.fetch = some 0x0000006F#32

/-- R410, items 1 and 3 as the model needs them: the boot address is a multiple of 4 and the image holds a word there. -/
abbrev Launchable (cfg : Config) (imem : Memory) : Prop :=
  cfg.bootAddr.toNat % 4 = 0 ∧ (imem.readLE cfg.bootAddr 4).isSome = true

end Sys2Proof.Machine
end

