-- ==== Sys2Proof/Certificates/Slice0/Obligations.lean ====
section
/-! DEFINITION. The statements for the provers. Each says which rule of spec/ it formalises. Next states are written with `State.setX` (a write
to index 0 is discarded), `State.withDmem` and `State.jump`; values are written out. -/

namespace Sys2Proof.Claims

open Sys2Proof.Machine

/-- The instruction's row: its word has the row's bits under the row's mask and decodes to the instruction. -/
abbrev Encodes (i : Instr) (mask bits : Word) : Prop :=
  WellFormed i → encode i &&& mask = bits ∧ decode (encode i) = i

/-- The access at `a` is accepted (R71): `MISALIGNED_DATA` is bytewise, or the address is a multiple of the size. -/
abbrev Accepted (s : State) (a : Word) (n : Nat) : Prop :=
  s.cfg.misalignedData = .bytewise ∨ a.toNat % n = 0

/-- The `n` bytes at `a` hold the bytes of `v`, lowest first, addresses modulo 2^32. -/
abbrev HoldsBytes (m : Memory) (a v : Word) (n : Nat) : Prop :=
  ∀ k < n, m.read (a + BitVec.ofNat 32 k).toNat = some (v.extractLsb' (8 * k) 8)

/-- The address is none of the `n` bytes at `a`. -/
abbrev Outside (b : Nat) (a : Word) (n : Nat) : Prop :=
  ∀ k < n, b ≠ (a + BitVec.ofNat 32 k).toNat

/-- The instruction completes at `s`; it stores the low `n` bytes of `v` at `a` and changes nothing else but the PC, which advances by 4. -/
abbrev StoresAt (i : Instr) (s : State) (a v : Word) (n : Nat) : Prop :=
  ∃ m, exec i s = .next ((s.withDmem m).jump (s.pc + 4#32)) ∧ HoldsBytes m a v n ∧ ∀ b, Outside b a n → m.read b = s.dmem.read b

/-- The instruction completes at `s`: it writes `v` to `rd` and the PC advances by 4; nothing else changes. -/
abbrev Writes (i : Instr) (s : State) (rd : RegIdx) (v : Word) : Prop :=
  exec i s = .next ((s.setX rd v).jump (s.pc + 4#32))

/-- The instruction completes at `s` and only advances the PC by 4. -/
abbrev OnlyAdvances (i : Instr) (s : State) : Prop :=
  exec i s = .next (s.jump (s.pc + 4#32))

/-- The register an instruction writes (R36): OP, OP-IMM, LOAD, JAL, JALR, LUI and AUIPC have one, no other instruction does. -/
def destination : Instr → Option RegIdx
  | .lui rd _ | .auipc rd _ | .jal rd _ | .jalr rd _ _ | .jalrF3Nonzero _ rd _ _ => some rd
  | .lb rd _ _ | .lh rd _ _ | .lw rd _ _ | .lbu rd _ _ | .lhu rd _ _ | .loadWordF3_110 rd _ _ | .loadSize11 _ rd _ _ => some rd
  | .addi rd _ _ | .slti rd _ _ | .sltiu rd _ _ | .xori rd _ _ | .ori rd _ _ | .andi rd _ _ => some rd
  | .slli rd _ _ | .srli rd _ _ | .srai rd _ _ | .slliAnyFunct7 _ rd _ _ | .sraiAnyFunct7 _ rd _ _ => some rd
  | .add rd _ _ | .sub rd _ _ | .sll rd _ _ | .slt rd _ _ | .sltu rd _ _ => some rd
  | .xor rd _ _ | .srl rd _ _ | .sra rd _ _ | .or rd _ _ | .and rd _ _ => some rd
  | .opAddAnyFunct7 _ rd _ _ | .opSubAnyFunct7 _ rd _ _ | .opSllAnyFunct7 _ rd _ _ | .opSltAnyFunct7 _ rd _ _ => some rd
  | .opSltuAnyFunct7 _ rd _ _ | .opXorAnyFunct7 _ rd _ _ | .opSrlAnyFunct7 _ rd _ _ | .opSraAnyFunct7 _ rd _ _ => some rd
  | .opOrAnyFunct7 _ rd _ _ | .opAndAnyFunct7 _ rd _ _ => some rd
  | .beq _ _ _ | .bne _ _ _ | .blt _ _ _ | .bge _ _ _ | .bltu _ _ _ | .bgeu _ _ _ | .branchF3_01x _ _ _ _ => none
  | .sb _ _ _ | .sh _ _ _ | .sw _ _ _ | .storeByteF3_100 _ _ _ | .storeHalfF3_101 _ _ _ | .storeWordF3_110 _ _ _ => none
  | .storeSize11 _ _ _ _ => none
  | .fence _ _ _ _ _ | .fenceI _ _ _ | .ecall | .ebreak | .mret | .sret | .wfi | .sfenceVma _ _ | .systemOther _ => none
  | .csrrw _ _ _ | .csrrs _ _ _ | .csrrc _ _ _ | .csrrwi _ _ _ | .csrrsi _ _ _ | .csrrci _ _ _ => none
  | .mul _ _ _ | .mulh _ _ _ | .mulhsu _ _ _ | .mulhu _ _ _ | .div _ _ _ | .divu _ _ _ | .rem _ _ _ | .remu _ _ _ => none
  | .srxiBadFunct7 _ _ _ _ | .unrecognised _ => none

/-- The bytes an instruction stores to: an address and a length (R69), computed as the store meanings compute the address; none for an
instruction that stores nothing. -/
def storeAccess (i : Instr) (s : State) : Option (Word × Nat) :=
  match i with
  | .sb rs1 _ imm | .storeByteF3_100 rs1 _ imm => some (s.effAddr rs1 (immS imm), 1)
  | .sh rs1 _ imm | .storeHalfF3_101 rs1 _ imm => some (s.effAddr rs1 (immS imm), 2)
  | .sw rs1 _ imm | .storeWordF3_110 rs1 _ imm => some (s.effAddr rs1 (immS imm), 4)
  | _ => none

/-- The BRANCH, JAL and JALR instructions: the only ones that can set the PC to something other than PC+4 (R151, R164). -/
def isControlTransfer : Instr → Bool
  | .jal _ _ | .jalr _ _ _ | .jalrF3Nonzero _ _ _ _ => true
  | .beq _ _ _ | .bne _ _ _ | .blt _ _ _ | .bge _ _ _ | .bltu _ _ _ | .bgeu _ _ _ => true
  | _ => false

/-- The M-extension words (R345 to R352). -/
def isMul : Instr → Bool
  | .mul _ _ _ | .mulh _ _ _ | .mulhsu _ _ _ | .mulhu _ _ _ | .div _ _ _ | .divu _ _ _ | .rem _ _ _ | .remu _ _ _ => true
  | _ => false

/-- LOAD and STORE with size code 11 (R225, R283). -/
def isSize11 : Instr → Bool
  | .loadSize11 _ _ _ _ | .storeSize11 _ _ _ _ => true
  | _ => false

/-- The halfword and word accesses, with their address (R71). -/
def wideAccess (i : Instr) (s : State) : Option (Word × Nat) :=
  match i with
  | .lh _ rs1 imm | .lhu _ rs1 imm => some (s.effAddr rs1 (immI imm), 2)
  | .lw _ rs1 imm | .loadWordF3_110 _ rs1 imm => some (s.effAddr rs1 (immI imm), 4)
  | .sh rs1 _ imm | .storeHalfF3_101 rs1 _ imm => some (s.effAddr rs1 (immS imm), 2)
  | .sw rs1 _ imm | .storeWordF3_110 rs1 _ imm => some (s.effAddr rs1 (immS imm), 4)
  | _ => none

/-- The bytes a load reads: its address and its length (R68). -/
def loadAccess (i : Instr) (s : State) : Option (Word × Nat) :=
  match i with
  | .lb _ rs1 imm | .lbu _ rs1 imm => some (s.effAddr rs1 (immI imm), 1)
  | .lh _ rs1 imm | .lhu _ rs1 imm => some (s.effAddr rs1 (immI imm), 2)
  | .lw _ rs1 imm | .loadWordF3_110 _ rs1 imm => some (s.effAddr rs1 (immI imm), 4)
  | _ => none

/-- A state with other values of the two inputs that no instruction reads (R42). -/
def withInputs (rst : Bool) (bootAddr : Word) (s : State) : State := { s with rst := rst, cfg := { s.cfg with bootAddr := bootAddr } }

/-- An outcome with its next state, if it has one, put through `f`. -/
def mapNext (f : State → State) : Result → Result
  | .next t => .next (f t)
  | .fault r => .fault r
  | .refused r => .refused r

/-- The outcome of R371 that a fault of the step is. -/
def outcomeOfFault : Fault → ModelOutcome
  | .fetchUndefined pc => .fetchUndefined pc
  | .memSizeReserved pc => .memSizeReserved pc
  | .misalignedData a => .misalignedData a
  | .uninitialisedMemory a => .uninitialisedMemory a

/-- Bit `i` of a word that sign-extends an immediate whose top bit is inst[31]: `low i` below bit `n`, inst[31] from there up. -/
abbrev SignExtends (imm w : Word) (n : Nat) (low : Nat → Bool) : Prop :=
  ∀ i < 32, imm.getLsbD i = if i < n then low i else w.getLsbD 31

end Sys2Proof.Claims

open Sys2Proof Sys2Proof.Machine Sys2Proof.Claims

/-! ### Encoding -/

/-- Every well-formed instruction decodes from its own word, at every value of every field (30_encoding.md R92 to R120). -/
def Obligations.DecodeOfEncodeIsTheInstruction : Prop :=
  ∀ i : Instr, WellFormed i → decode (encode i) = i

/-- Every one of the 2^32 words decodes to a well-formed instruction whose word it is: no bit of a word is dropped (R121, R123). -/
def Obligations.EncodeOfDecodeIsTheWord : Prop :=
  ∀ w : Word, WellFormed (decode w) ∧ encode (decode w) = w

/-- The decoder gives each word the first row of opcode_table.json, in increasing priority, that the word matches (R129). -/
def Obligations.DecoderAgreesWithOpcodeTable : Prop :=
  ∀ w : Word, (tableLookup w).map (·.mnemonic) = some (decode w).mnemonic

/-- The table is in increasing priority, rows of equal priority never overlap, and the last row matches every word (R129). -/
def Obligations.OpcodeTableIsUnambiguous : Prop :=
  opcodeTable.Pairwise (fun r r' => r.priority < r'.priority ∨ (r.priority = r'.priority ∧ r.overlaps r' = false)) ∧
    opcodeTable.getLast?.map (fun r => (r.mask, r.bits)) = some (0#32, 0#32)

/-- The instruction words the source gives (95_test_vectors.md S1 to S4), and one word of each remaining family of the table. -/
def Obligations.SampleWordsDecode : Prop :=
  decode 0x00100093#32 = .addi 1 0 1 ∧ decode 0x001000B3#32 = .add 1 0 1 ∧ decode 0x00002083#32 = .lw 1 0 0 ∧
    decode 0x00000063#32 = .beq 0 0 0 ∧ decode 0xFE21AE23#32 = .sw 3 2 (-4) ∧ decode 0x7FFFF06F#32 = .jal 0 1048574 ∧
    decode 0xFFF280E7#32 = .jalr 1 5 (-1) ∧ decode 0x80000197#32 = .auipc 3 0x80000 ∧ decode 0x00000073#32 = .ecall ∧
    decode 0x02730433#32 = .mul 8 6 7 ∧ decode 0x42435393#32 = .sraiAnyFunct7 0b0100001 7 6 4 ∧
    decode 0x00000000#32 = .unrecognised 0x00000000#32

/-- Every decoded immediate is the bits of the word that its format names (R93, R95 to R98), bit by bit, for each class of instruction; the
last clause is the decoded shift amount (the first half of R94). -/
def Obligations.ImmediatesAreTheirBits : Prop :=
  ∀ w : Word,
    (((decodeRecord w).opClass = .jalr ∨ (decodeRecord w).opClass = .load ∨
        ((decodeRecord w).opClass = .alu ∧ (decodeRecord w).aluSrc = true ∧ fieldFunct3 w ≠ 0b001#3 ∧ fieldFunct3 w ≠ 0b101#3)) →
      SignExtends (decodeRecord w).imm w 11 fun i => w.getLsbD (20 + i)) ∧
    ((decodeRecord w).opClass = .store →
      SignExtends (decodeRecord w).imm w 11 fun i => if i < 5 then w.getLsbD (7 + i) else w.getLsbD (20 + i)) ∧
    ((decodeRecord w).opClass = .branch →
      SignExtends (decodeRecord w).imm w 12 fun i =>
        if i = 0 then false else if i < 5 then w.getLsbD (7 + i) else if i < 11 then w.getLsbD (20 + i) else w.getLsbD 7) ∧
    (((decodeRecord w).opClass = .lui ∨ (decodeRecord w).opClass = .auipc) →
      ∀ i < 32, (decodeRecord w).imm.getLsbD i = if i < 12 then false else w.getLsbD i) ∧
    ((decodeRecord w).opClass = .jal →
      SignExtends (decodeRecord w).imm w 20 fun i =>
        if i = 0 then false else if i < 11 then w.getLsbD (20 + i) else if i = 11 then w.getLsbD 20 else w.getLsbD i) ∧
    ((decodeRecord w).opClass = .alu ∧ (decodeRecord w).aluSrc = true ∧ (fieldFunct3 w = 0b001#3 ∨ fieldFunct3 w = 0b101#3) →
      ∀ i < 32, (decodeRecord w).imm.getLsbD i = if i < 5 then w.getLsbD (20 + i) else false)

/-- The Decoder never produces the ALU function INVALID (R121). -/
def Obligations.DecoderNeverGivesInvalid : Prop :=
  ∀ w : Word, (decodeRecord w).aluFunc ≠ .invalid

/-- R120, R122: `dec_default` is 1 exactly when the record is the safe default's; the ControlUnit then gives PLUS4, NONE, false, ALU, and the
word's instruction only advances the PC, or is one of the M-extension words refused under `OP_FUNCT7_01` = refuse. -/
def Obligations.SafeDefaultIsDecDefault : Prop :=
  ∀ w : Word, (decDefault w = true ↔ decodeRecord w = defaultRecord) ∧
    (decDefault w = true → ∀ s : State,
      controlOf s (decodeRecord w) = { pcOp := .plus4, memOp := .none, memMode := 0#3, regWriteEnable := false, wbSelect := .alu } ∧
        (OnlyAdvances (decode w) s ∨
          (isMul (decode w) = true ∧ s.cfg.opFunct701 = .refuse ∧ exec (decode w) s = .refused (.funct7_01 s.pc))))

/-! ### Results, instruction by instruction: each completes in every state that meets the hypotheses on the state and operands

Where a source register is unwritten, the spec's own model stops (R46) and this one reads what the register holds: the model's choice, log 1. -/

/-- LUI and AUIPC (R200, R201). Their opcode values are the spec's general knowledge (R99, log 13); AUIPC's path to the adder is its decision D5
(log 14). -/
def Obligations.UpperImmediateResults : Prop :=
  ∀ (rd : RegIdx) (imm20 : BitVec 20) (s : State),
    Encodes (.lui rd imm20) 0x0000007F#32 0x00000037#32 ∧ Writes (.lui rd imm20) s rd (imm20 ++ 0#12) ∧
    Encodes (.auipc rd imm20) 0x0000007F#32 0x00000017#32 ∧ Writes (.auipc rd imm20) s rd (s.pc + (imm20 ++ 0#12))

/-- JAL and JALR, JALR for every funct3 (R210, R211): the link is pc + 4, and the target is computed from the registers before the
edge. The opcode values are the spec's general knowledge (R99, log 13), the targets its decision D6 (log 14). -/
def Obligations.JumpResults : Prop :=
  ∀ (rd rs1 : RegIdx) (funct3 : BitVec 3) (immj : BitVec 21) (imm : BitVec 12) (s : State),
    Encodes (.jal rd immj) 0x0000007F#32 0x0000006F#32 ∧
    exec (.jal rd immj) s = .next ((s.setX rd (s.pc + 4#32)).jump (s.pc + immj.signExtend 32)) ∧
    Encodes (.jalr rd rs1 imm) 0x0000707F#32 0x00000067#32 ∧
    exec (.jalr rd rs1 imm) s =
      .next ((s.setX rd (s.pc + 4#32)).jump ((s.getX rs1 + imm.signExtend 32) &&& 0xFFFFFFFE#32)) ∧
    Encodes (.jalrF3Nonzero funct3 rd rs1 imm) 0x0000007F#32 0x00000067#32 ∧
    exec (.jalrF3Nonzero funct3 rd rs1 imm) s =
      .next ((s.setX rd (s.pc + 4#32)).jump ((s.getX rs1 + imm.signExtend 32) &&& 0xFFFFFFFE#32))

/-- The seven BRANCH forms (R260 to R266): the condition on the registers, the target pc + immB (the spec's
decision D6, log 14), and nothing but the PC changes. -/
def Obligations.BranchResults : Prop :=
  ∀ (rs1 rs2 : RegIdx) (f3lo : BitVec 1) (imm : BitVec 13) (s : State),
    (Encodes (.beq rs1 rs2 imm) 0x0000707F#32 0x00000063#32 ∧
      exec (.beq rs1 rs2 imm) s =
        .next (s.jump (if s.getX rs1 = s.getX rs2 then s.pc + imm.signExtend 32 else s.pc + 4#32))) ∧
    (Encodes (.bne rs1 rs2 imm) 0x0000707F#32 0x00001063#32 ∧
      exec (.bne rs1 rs2 imm) s =
        .next (s.jump (if s.getX rs1 = s.getX rs2 then s.pc + 4#32 else s.pc + imm.signExtend 32))) ∧
    (Encodes (.blt rs1 rs2 imm) 0x0000707F#32 0x00004063#32 ∧
      exec (.blt rs1 rs2 imm) s =
        .next (s.jump (if (s.getX rs1).toInt < (s.getX rs2).toInt then s.pc + imm.signExtend 32 else s.pc + 4#32))) ∧
    (Encodes (.bge rs1 rs2 imm) 0x0000707F#32 0x00005063#32 ∧
      exec (.bge rs1 rs2 imm) s =
        .next (s.jump (if (s.getX rs1).toInt < (s.getX rs2).toInt then s.pc + 4#32 else s.pc + imm.signExtend 32))) ∧
    (Encodes (.bltu rs1 rs2 imm) 0x0000707F#32 0x00006063#32 ∧
      exec (.bltu rs1 rs2 imm) s =
        .next (s.jump (if (s.getX rs1).toNat < (s.getX rs2).toNat then s.pc + imm.signExtend 32 else s.pc + 4#32))) ∧
    (Encodes (.bgeu rs1 rs2 imm) 0x0000707F#32 0x00007063#32 ∧
      exec (.bgeu rs1 rs2 imm) s =
        .next (s.jump (if (s.getX rs1).toNat < (s.getX rs2).toNat then s.pc + 4#32 else s.pc + imm.signExtend 32))) ∧
    (Encodes (.branchF3_01x f3lo rs1 rs2 imm) 0x0000607F#32 0x00002063#32 ∧ OnlyAdvances (.branchF3_01x f3lo rs1 rs2 imm) s)

/-- The loads (R220 to R224, R226): where the access is accepted and its bytes `b0`, `b1`, ... hold values, the load completes; little-endian,
sign- or zero-extended (the spec's decisions D1, D15; log 13, log 14). -/
def Obligations.LoadResults : Prop :=
  ∀ (rd rs1 : RegIdx) (imm : BitVec 12) (s : State) (a : Word) (b0 b1 b2 b3 : Byte), a = s.getX rs1 + imm.signExtend 32 →
    s.dmem.read a.toNat = some b0 →
    (Writes (.lb rd rs1 imm) s rd (b0.signExtend 32) ∧ Writes (.lbu rd rs1 imm) s rd (b0.setWidth 32)) ∧
    (s.dmem.read (a + 1#32).toNat = some b1 → Accepted s a 2 →
      Writes (.lh rd rs1 imm) s rd ((b1 ++ b0).signExtend 32) ∧ Writes (.lhu rd rs1 imm) s rd ((b1 ++ b0).setWidth 32)) ∧
    (s.dmem.read (a + 1#32).toNat = some b1 → s.dmem.read (a + 2#32).toNat = some b2 → s.dmem.read (a + 3#32).toNat = some b3 →
      Accepted s a 4 →
      Writes (.lw rd rs1 imm) s rd (b3 ++ b2 ++ b1 ++ b0) ∧ Writes (.loadWordF3_110 rd rs1 imm) s rd (b3 ++ b2 ++ b1 ++ b0))

/-- The stores (R280 to R282, R284): where the access is accepted the store completes, its bytes hold the low bytes of x[rs2], and every other
byte of memory is unchanged (the spec's decisions D1, D14; log 13, log 14; the opcode value is its general knowledge). -/
def Obligations.StoreResults : Prop :=
  ∀ (rs1 rs2 : RegIdx) (imm : BitVec 12) (s : State) (a : Word), a = s.getX rs1 + imm.signExtend 32 →
    (StoresAt (.sb rs1 rs2 imm) s a (s.getX rs2) 1 ∧ StoresAt (.storeByteF3_100 rs1 rs2 imm) s a (s.getX rs2) 1) ∧
    (Accepted s a 2 →
      StoresAt (.sh rs1 rs2 imm) s a (s.getX rs2) 2 ∧ StoresAt (.storeHalfF3_101 rs1 rs2 imm) s a (s.getX rs2) 2) ∧
    (Accepted s a 4 →
      StoresAt (.sw rs1 rs2 imm) s a (s.getX rs2) 4 ∧ StoresAt (.storeWordF3_110 rs1 rs2 imm) s a (s.getX rs2) 4)

/-- The words of the loads and the stores (the encoding lines of R220 to R226 and R280 to R284). -/
def Obligations.MemoryEncodings : Prop :=
  ∀ (rd rs1 rs2 : RegIdx) (f : BitVec 1) (imm : BitVec 12),
    Encodes (.lb rd rs1 imm) 0x0000707F#32 0x00000003#32 ∧ Encodes (.lh rd rs1 imm) 0x0000707F#32 0x00001003#32 ∧
    Encodes (.lw rd rs1 imm) 0x0000707F#32 0x00002003#32 ∧ Encodes (.lbu rd rs1 imm) 0x0000707F#32 0x00004003#32 ∧
    Encodes (.lhu rd rs1 imm) 0x0000707F#32 0x00005003#32 ∧ Encodes (.loadWordF3_110 rd rs1 imm) 0x0000707F#32 0x00006003#32 ∧
    Encodes (.loadSize11 f rd rs1 imm) 0x0000307F#32 0x00003003#32 ∧
    Encodes (.sb rs1 rs2 imm) 0x0000707F#32 0x00000023#32 ∧ Encodes (.sh rs1 rs2 imm) 0x0000707F#32 0x00001023#32 ∧
    Encodes (.sw rs1 rs2 imm) 0x0000707F#32 0x00002023#32 ∧ Encodes (.storeByteF3_100 rs1 rs2 imm) 0x0000707F#32 0x00004023#32 ∧
    Encodes (.storeHalfF3_101 rs1 rs2 imm) 0x0000707F#32 0x00005023#32 ∧
    Encodes (.storeWordF3_110 rs1 rs2 imm) 0x0000707F#32 0x00006023#32 ∧
    Encodes (.storeSize11 f rs1 rs2 imm) 0x0000307F#32 0x00003023#32

/-- Size code 11 (R225, R283, the spec's decision D4, log 9): the model stops on both, in every state. -/
def Obligations.SizeCode11Stops : Prop :=
  ∀ (f : BitVec 1) (rd rs1 rs2 : RegIdx) (imm : BitVec 12) (s : State),
    Encodes (.loadSize11 f rd rs1 imm) 0x0000307F#32 0x00003003#32 ∧
    exec (.loadSize11 f rd rs1 imm) s = .fault (.memSizeReserved s.pc) ∧
    Encodes (.storeSize11 f rs1 rs2 imm) 0x0000307F#32 0x00003023#32 ∧
    exec (.storeSize11 f rs1 rs2 imm) s = .fault (.memSizeReserved s.pc)

/-- The OP-IMM arithmetic and logic (R240 to R245). That x[rs1] is read where it is unwritten too is the model's choice (log 1). -/
def Obligations.OpImmResults : Prop :=
  ∀ (rd rs1 : RegIdx) (imm : BitVec 12) (s : State),
    Encodes (.addi rd rs1 imm) 0x0000707F#32 0x00000013#32 ∧ Writes (.addi rd rs1 imm) s rd (s.getX rs1 + imm.signExtend 32) ∧
    Encodes (.slti rd rs1 imm) 0x0000707F#32 0x00002013#32 ∧
    Writes (.slti rd rs1 imm) s rd (if (s.getX rs1).toInt < (imm.signExtend 32).toInt then 1#32 else 0#32) ∧
    Encodes (.sltiu rd rs1 imm) 0x0000707F#32 0x00003013#32 ∧
    Writes (.sltiu rd rs1 imm) s rd (if (s.getX rs1).toNat < (imm.signExtend 32).toNat then 1#32 else 0#32) ∧
    Encodes (.xori rd rs1 imm) 0x0000707F#32 0x00004013#32 ∧ Writes (.xori rd rs1 imm) s rd (s.getX rs1 ^^^ imm.signExtend 32) ∧
    Encodes (.ori rd rs1 imm) 0x0000707F#32 0x00006013#32 ∧ Writes (.ori rd rs1 imm) s rd (s.getX rs1 ||| imm.signExtend 32) ∧
    Encodes (.andi rd rs1 imm) 0x0000707F#32 0x00007013#32 ∧ Writes (.andi rd rs1 imm) s rd (s.getX rs1 &&& imm.signExtend 32)

/-- The OP-IMM shifts in their standard forms (R246 to R248). That x[rs1] is read where it is unwritten too is the model's choice (log 1). -/
def Obligations.OpImmShiftResults : Prop :=
  ∀ (rd rs1 : RegIdx) (shamt : BitVec 5) (s : State),
    Encodes (.slli rd rs1 shamt) 0xFE00707F#32 0x00001013#32 ∧ Writes (.slli rd rs1 shamt) s rd (s.getX rs1 <<< shamt.toNat) ∧
    Encodes (.srli rd rs1 shamt) 0xFE00707F#32 0x00005013#32 ∧ Writes (.srli rd rs1 shamt) s rd (s.getX rs1 >>> shamt.toNat) ∧
    Encodes (.srai rd rs1 shamt) 0xFE00707F#32 0x40005013#32 ∧
    Writes (.srai rd rs1 shamt) s rd ((s.getX rs1).sshiftRight shamt.toNat)

/-- The OP-IMM shifts with other funct7 bits (R249, R250: the spec's inference from R116, log 14): they shift as SLLI and SRAI do. -/
def Obligations.OpImmShiftOtherFunct7Results : Prop :=
  ∀ (rd rs1 : RegIdx) (shamt : BitVec 5) (funct7 : BitVec 7) (s : State),
    Encodes (.slliAnyFunct7 funct7 rd rs1 shamt) 0x0000707F#32 0x00001013#32 ∧
    Writes (.slliAnyFunct7 funct7 rd rs1 shamt) s rd (s.getX rs1 <<< shamt.toNat) ∧
    Encodes (.sraiAnyFunct7 funct7 rd rs1 shamt) 0x4000707F#32 0x40005013#32 ∧
    Writes (.sraiAnyFunct7 funct7 rd rs1 shamt) s rd ((s.getX rs1).sshiftRight shamt.toNat)

/-- The OP instructions but SLL (R300, R301, R303 to R309); shifts use x[rs2][4:0] only. That the sources are read where
they are unwritten too is the model's choice (log 1). -/
def Obligations.OpResults : Prop :=
  ∀ (rd rs1 rs2 : RegIdx) (s : State) (a b : Word), a = s.getX rs1 → b = s.getX rs2 →
    Encodes (.add rd rs1 rs2) 0xFE00707F#32 0x00000033#32 ∧ Writes (.add rd rs1 rs2) s rd (a + b) ∧
    Encodes (.sub rd rs1 rs2) 0xFE00707F#32 0x40000033#32 ∧ Writes (.sub rd rs1 rs2) s rd (a - b) ∧
    Encodes (.slt rd rs1 rs2) 0xFE00707F#32 0x00002033#32 ∧
    Writes (.slt rd rs1 rs2) s rd (if a.toInt < b.toInt then 1#32 else 0#32) ∧
    Encodes (.sltu rd rs1 rs2) 0xFE00707F#32 0x00003033#32 ∧
    Writes (.sltu rd rs1 rs2) s rd (if a.toNat < b.toNat then 1#32 else 0#32) ∧
    Encodes (.xor rd rs1 rs2) 0xFE00707F#32 0x00004033#32 ∧ Writes (.xor rd rs1 rs2) s rd (a ^^^ b) ∧
    Encodes (.srl rd rs1 rs2) 0xFE00707F#32 0x00005033#32 ∧ Writes (.srl rd rs1 rs2) s rd (a >>> (b.toNat % 32)) ∧
    Encodes (.sra rd rs1 rs2) 0xFE00707F#32 0x40005033#32 ∧ Writes (.sra rd rs1 rs2) s rd (a.sshiftRight (b.toNat % 32)) ∧
    Encodes (.or rd rs1 rs2) 0xFE00707F#32 0x00006033#32 ∧ Writes (.or rd rs1 rs2) s rd (a ||| b) ∧
    Encodes (.and rd rs1 rs2) 0xFE00707F#32 0x00007033#32 ∧ Writes (.and rd rs1 rs2) s rd (a &&& b)

/-- SLL (R302: funct3 001 is SLL by the spec's decision D8, log 14) and the OP words with a non-standard funct7 (R310, the spec's inference from
R119: the function comes from funct3, and from funct7[5] for funct3 000 and 101; log 14). -/
def Obligations.OpSllAndNonStandardFunct7Results : Prop :=
  ∀ (f : BitVec 7) (rd rs1 rs2 : RegIdx) (s : State) (a b : Word), a = s.getX rs1 → b = s.getX rs2 →
    Encodes (.sll rd rs1 rs2) 0xFE00707F#32 0x00001033#32 ∧ Writes (.sll rd rs1 rs2) s rd (a <<< (b.toNat % 32)) ∧
    Encodes (.opAddAnyFunct7 f rd rs1 rs2) 0x4000707F#32 0x00000033#32 ∧ Writes (.opAddAnyFunct7 f rd rs1 rs2) s rd (a + b) ∧
    Encodes (.opSubAnyFunct7 f rd rs1 rs2) 0x4000707F#32 0x40000033#32 ∧ Writes (.opSubAnyFunct7 f rd rs1 rs2) s rd (a - b) ∧
    Encodes (.opSrlAnyFunct7 f rd rs1 rs2) 0x4000707F#32 0x00005033#32 ∧
    Writes (.opSrlAnyFunct7 f rd rs1 rs2) s rd (a >>> (b.toNat % 32)) ∧
    Encodes (.opSraAnyFunct7 f rd rs1 rs2) 0x4000707F#32 0x40005033#32 ∧
    Writes (.opSraAnyFunct7 f rd rs1 rs2) s rd (a.sshiftRight (b.toNat % 32)) ∧
    Encodes (.opSllAnyFunct7 f rd rs1 rs2) 0x0000707F#32 0x00001033#32 ∧
    Writes (.opSllAnyFunct7 f rd rs1 rs2) s rd (a <<< (b.toNat % 32)) ∧
    Encodes (.opSltAnyFunct7 f rd rs1 rs2) 0x0000707F#32 0x00002033#32 ∧
    Writes (.opSltAnyFunct7 f rd rs1 rs2) s rd (if a.toInt < b.toInt then 1#32 else 0#32) ∧
    Encodes (.opSltuAnyFunct7 f rd rs1 rs2) 0x0000707F#32 0x00003033#32 ∧
    Writes (.opSltuAnyFunct7 f rd rs1 rs2) s rd (if a.toNat < b.toNat then 1#32 else 0#32) ∧
    Encodes (.opXorAnyFunct7 f rd rs1 rs2) 0x0000707F#32 0x00004033#32 ∧ Writes (.opXorAnyFunct7 f rd rs1 rs2) s rd (a ^^^ b) ∧
    Encodes (.opOrAnyFunct7 f rd rs1 rs2) 0x0000707F#32 0x00006033#32 ∧ Writes (.opOrAnyFunct7 f rd rs1 rs2) s rd (a ||| b) ∧
    Encodes (.opAndAnyFunct7 f rd rs1 rs2) 0x0000707F#32 0x00007033#32 ∧ Writes (.opAndAnyFunct7 f rd rs1 rs2) s rd (a &&& b)

/-- MISC-MEM and the SYSTEM words that touch no CSR only advance the PC (R330 to R333, R340 to R344). Their opcode values and layouts are the
spec's general knowledge (48_default_noop.md, log 13). -/
def Obligations.SystemWordsOnlyAdvance : Prop :=
  ∀ (fm pred succ : BitVec 4) (imm : BitVec 12) (rd rs1 rs2 : RegIdx) (bits : BitVec 25) (s : State),
    (Encodes (.fence fm pred succ rs1 rd) 0x0000707F#32 0x0000000F#32 ∧ OnlyAdvances (.fence fm pred succ rs1 rd) s) ∧
    (Encodes (.fenceI imm rs1 rd) 0x0000707F#32 0x0000100F#32 ∧ OnlyAdvances (.fenceI imm rs1 rd) s) ∧
    (Encodes .ecall 0xFFFFFFFF#32 0x00000073#32 ∧ OnlyAdvances .ecall s) ∧
    (Encodes .ebreak 0xFFFFFFFF#32 0x00100073#32 ∧ OnlyAdvances .ebreak s) ∧
    (Encodes .mret 0xFFFFFFFF#32 0x30200073#32 ∧ OnlyAdvances .mret s) ∧
    (Encodes .sret 0xFFFFFFFF#32 0x10200073#32 ∧ OnlyAdvances .sret s) ∧
    (Encodes .wfi 0xFFFFFFFF#32 0x10500073#32 ∧ OnlyAdvances .wfi s) ∧
    (Encodes (.sfenceVma rs1 rs2) 0xFE007FFF#32 0x12000073#32 ∧ OnlyAdvances (.sfenceVma rs1 rs2) s) ∧
    (Encodes (.systemOther bits) 0x0000007F#32 0x00000073#32 ∧ OnlyAdvances (.systemOther bits) s)

/-- The six CSR forms, the OP-IMM right shifts with a bad funct7 and the unrecognised words only advance the PC (R334 to R339, R353, R354): no
CSR exists, rd is not written. R353 is the spec's decision D9 (log 14); the CSR layouts are its general knowledge (log 13). -/
def Obligations.CsrAndUnrecognisedWordsOnlyAdvance : Prop :=
  ∀ (rd rs1 : RegIdx) (csr : BitVec 12) (funct7 : BitVec 7) (shamt : BitVec 5) (w : Word) (s : State),
    (Encodes (.csrrw rd rs1 csr) 0x0000707F#32 0x00001073#32 ∧ OnlyAdvances (.csrrw rd rs1 csr) s) ∧
    (Encodes (.csrrs rd rs1 csr) 0x0000707F#32 0x00002073#32 ∧ OnlyAdvances (.csrrs rd rs1 csr) s) ∧
    (Encodes (.csrrc rd rs1 csr) 0x0000707F#32 0x00003073#32 ∧ OnlyAdvances (.csrrc rd rs1 csr) s) ∧
    (Encodes (.csrrwi rd shamt csr) 0x0000707F#32 0x00005073#32 ∧ OnlyAdvances (.csrrwi rd shamt csr) s) ∧
    (Encodes (.csrrsi rd shamt csr) 0x0000707F#32 0x00006073#32 ∧ OnlyAdvances (.csrrsi rd shamt csr) s) ∧
    (Encodes (.csrrci rd shamt csr) 0x0000707F#32 0x00007073#32 ∧ OnlyAdvances (.csrrci rd shamt csr) s) ∧
    (Encodes (.srxiBadFunct7 funct7 rd rs1 shamt) 0x0000707F#32 0x00005013#32 ∧ OnlyAdvances (.srxiBadFunct7 funct7 rd rs1 shamt) s) ∧
    (Encodes (.unrecognised w) 0x00000000#32 0x00000000#32 ∧ OnlyAdvances (.unrecognised w) s)

/-- The M-extension words (R345 to R352): no-ops under `OP_FUNCT7_01` = noop, refused by name under refuse (the spec's
decision D28, log 14). -/
def Obligations.MulWordsOnlyAdvance : Prop :=
  ∀ (rd rs1 rs2 : RegIdx) (s : State) (mk : RegIdx → RegIdx → RegIdx → Instr) (f3 : Word),
    (mk, f3) ∈ [(Instr.mul, 0x0000#32), (Instr.mulh, 0x1000#32), (Instr.mulhsu, 0x2000#32), (Instr.mulhu, 0x3000#32),
      (Instr.div, 0x4000#32), (Instr.divu, 0x5000#32), (Instr.rem, 0x6000#32), (Instr.remu, 0x7000#32)] →
    Encodes (mk rd rs1 rs2) 0xFE00707F#32 (0x02000033#32 ||| f3) ∧
    (s.cfg.opFunct701 = .noop → OnlyAdvances (mk rd rs1 rs2) s) ∧
    (s.cfg.opFunct701 = .refuse → exec (mk rd rs1 rs2) s = .refused (.funct7_01 s.pc))

/-! ### Frames: what an instruction leaves unchanged when it answers a next state -/

/-- Registers (R36): only the destination changes, register 0 never does, and a nonzero destination holds a word afterwards (R46). -/
def Obligations.OnlyTheDestinationRegisterChanges : Prop :=
  ∀ (i : Instr) (s t : State), exec i s = .next t →
    (∀ j : RegIdx, destination i ≠ some j ∨ j = 0#5 → t.getX j = s.getX j ∧ t.hasWritten j = s.hasWritten j) ∧
    (∀ j : RegIdx, destination i = some j → t.hasWritten j = true)

/-- Memory (R60, R69): every byte outside the bytes the instruction stores to reads as before, all of memory for an instruction that stores
nothing; the program image never changes. -/
def Obligations.OnlyStoresChangeMemory : Prop :=
  ∀ (i : Instr) (s t : State), exec i s = .next t →
    (storeAccess i s = none → ∀ b, t.dmem.read b = s.dmem.read b) ∧
    (∀ a n, storeAccess i s = some (a, n) → ∀ b, Outside b a n → t.dmem.read b = s.dmem.read b) ∧
    t.imem = s.imem

/-- The PC (R90, R151, R160, R39): every instruction but BRANCH, JAL and JALR advances it by 4, and from 0xFFFFFFFC that is 0. -/
def Obligations.OnlyControlTransfersRedirectThePc : Prop :=
  ∀ (i : Instr) (s t : State), isControlTransfer i = false → exec i s = .next t →
    t.pc = s.pc + 4#32 ∧ (s.pc = 0xFFFFFFFC#32 → t.pc = 0#32)

/-- The two configuration inputs (R42): an instruction does the same whatever the reset input and the boot address are, and changes neither;
no instruction changes any parameter (R7). -/
def Obligations.InstructionsIgnoreTheInputs : Prop :=
  ∀ (i : Instr) (s : State) (rst : Bool) (boot : Word),
    exec i (withInputs rst boot s) = mapNext (withInputs rst boot) (exec i s) ∧
      ∀ t, exec i s = .next t → t.rst = s.rst ∧ t.cfg = s.cfg

/-- Register 0 (R31): it reads 0 whatever is stored there, a write to it does nothing, and what is stored there is 0 at every launch and is
changed by no instruction and by no step, a reset edge included. -/
def Obligations.RegisterZeroIsHardwired : Prop :=
  (∀ (s : State) (v : Word), s.getX 0#5 = 0#32 ∧ s.setX 0#5 v = s) ∧
    (∀ (cfg : Config) (imem dmem : Memory), (State.launch cfg imem dmem).x[0] = 0#32) ∧
    (∀ (i : Instr) (s t : State), exec i s = .next t → t.x[0] = s.x[0]) ∧
    (∀ s t : State, step s = .next t → t.x[0] = s.x[0])

/-! ### Where an instruction stops -/

/-- An instruction stops only for a model outcome that its own rule names (R70, R71, R66, R371): everything else completes. -/
def Obligations.InstructionsStopOnlyAtNamedOutcomes : Prop :=
  ∀ (i : Instr) (s : State),
    (∃ t, exec i s = .next t) ∨
    (isSize11 i = true ∧ exec i s = .fault (.memSizeReserved s.pc)) ∨
    (∃ a n, wideAccess i s = some (a, n) ∧ ¬Accepted s a n ∧ exec i s = .fault (.misalignedData a)) ∨
    (∃ a n, loadAccess i s = some (a, n) ∧ Accepted s a n ∧ (∃ k < n, s.dmem.read (a + BitVec.ofNat 32 k).toNat = none) ∧
      exec i s = .fault (.uninitialisedMemory a)) ∨
    (isMul i = true ∧ s.cfg.opFunct701 = .refuse ∧ exec i s = .refused (.funct7_01 s.pc))

/-- A misaligned halfword or word access under `MISALIGNED_DATA` = fault (R71, the spec's decision D3, log 8) is `fault MisalignedData`, whatever
memory holds. -/
def Obligations.MisalignedAccessFaults : Prop :=
  ∀ (i : Instr) (s : State) (a : Word) (n : Nat), wideAccess i s = some (a, n) → s.cfg.misalignedData = .fault → a.toNat % n ≠ 0 →
    exec i s = .fault (.misalignedData a)

/-- A load of a byte that has no value (R64, R66, the spec's decision D2, log 2) is `fault UninitialisedMemory`, where the access is accepted. -/
def Obligations.UninitialisedLoadFaults : Prop :=
  ∀ (i : Instr) (s : State) (a : Word) (n k : Nat), loadAccess i s = some (a, n) → Accepted s a n → k < n →
    s.dmem.read (a + BitVec.ofNat 32 k).toNat = none → exec i s = .fault (.uninitialisedMemory a)

/-! ### The step -/

/-- With reset deasserted, a step runs the instruction whose word the image holds at the PC (R61, R63, R180): the bytes there, little-endian. -/
def Obligations.StepRunsTheFetchedInstruction : Prop :=
  ∀ (s : State) (i : Instr), s.rst = false → s.pc.toNat % 4 = 0 → WellFormed i → HoldsBytes s.imem s.pc (encode i) 4 →
    step s = exec i s

/-- `fault FetchUndefined` (R62, the spec's decision D12, log 7): at a PC that is not a multiple of 4, and where a byte of the word is not in the
image. -/
def Obligations.FetchOutsideTheImageFaults : Prop :=
  ∀ s : State, s.rst = false →
    (s.pc.toNat % 4 ≠ 0 ∨ ∃ k < 4, s.imem.read (s.pc + BitVec.ofNat 32 k).toNat = none) → step s = .fault (.fetchUndefined s.pc)

/-- Reset (R400): at an edge with reset asserted, the next PC is the boot address, whatever the cycle selects. Once reset is deasserted, the
word at the boot address runs. That the word's bytes lie lowest first is the spec's decision D1 (log 13), that a word is fetched at a multiple of
4 its decision D12 (log 7); an edge that answers no next state, under `RESET_STORE` = performed, is left to log 10. -/
def Obligations.ResetForcesTheBootAddress : Prop :=
  ∀ s t : State, s.rst = true → step s = .next t →
    t.pc = s.cfg.bootAddr ∧
      ∀ i : Instr, WellFormed i → s.cfg.bootAddr.toNat % 4 = 0 → HoldsBytes s.imem s.cfg.bootAddr (encode i) 4 →
        step { t with rst := false } = exec i { t with rst := false }

/-- What else a reset edge does (R403, the spec's decision D18, under both values of `RESET_STORE`). Suppressed: nothing but the PC changes, and
the edge always completes, even where the word fetched would have ended in a model outcome (the model's reading, log 10). Performed: the fetched
instruction's other effects commit, and an outcome that it ends in is the edge's (log 10). -/
def Obligations.ResetEdgeEffects : Prop :=
  ∀ s : State, s.rst = true →
    (s.cfg.resetStore = .suppressed → step s = .next (s.jump s.cfg.bootAddr)) ∧
    (∀ i : Instr, s.cfg.resetStore = .performed → s.fetch = some (encode i) → WellFormed i →
      step s = mapNext (fun u => u.jump s.cfg.bootAddr) (exec i s))

/-- The launch state (R45, R401, the spec's decision D16), for every parameter, program image and initial data: the PC is the boot address, x0 is 0,
every other register is unwritten, data memory is as given, reset is deasserted. -/
def Obligations.LaunchState : Prop :=
  ∀ (cfg : Config) (imem dmem : Memory),
    (State.launch cfg imem dmem).pc = cfg.bootAddr ∧ (State.launch cfg imem dmem).getX 0#5 = 0#32 ∧
    (∀ i : RegIdx, (State.launch cfg imem dmem).hasWritten i = decide (i = 0#5)) ∧
    (State.launch cfg imem dmem).dmem = dmem ∧ (State.launch cfg imem dmem).imem = imem ∧
    (State.launch cfg imem dmem).rst = false ∧ (State.launch cfg imem dmem).cfg = cfg

/-- The first cycle after a launch (R402, the spec's decision D17): the word at the boot address, or `fault FetchUndefined` where the image has
none. -/
def Obligations.LaunchRunsTheBootWord : Prop :=
  ∀ (cfg : Config) (imem dmem : Memory),
    (Launchable cfg imem → ∃ w, imem.readLE cfg.bootAddr 4 = some w ∧
      step (State.launch cfg imem dmem) = exec (decode w) (State.launch cfg imem dmem)) ∧
    (¬Launchable cfg imem → step (State.launch cfg imem dmem) = .fault (.fetchUndefined cfg.bootAddr))

/-- The halt idiom (R425): a state whose pc holds `jal x0, 0` is a fixed point of the step. -/
def Obligations.HaltIdiomIsAFixedPoint : Prop :=
  ∀ s : State, s.rst = false → s.atHaltIdiom → step s = .next s

/-! ### Sequences: every instruction sees the complete effect of the one before it (R420, R422, R77) -/

/-- A store, then a load of the same size from the same address: the loaded value is the stored one, widened as the load says (R77). -/
def Obligations.LoadReturnsTheLastStore : Prop :=
  ∀ (rd rs1 rs2 : RegIdx) (imm : BitVec 12) (s t : State),
    (exec (.sw rs1 rs2 imm) s = .next t → Writes (.lw rd rs1 imm) t rd (s.getX rs2)) ∧
    (exec (.sh rs1 rs2 imm) s = .next t →
      Writes (.lh rd rs1 imm) t rd (((s.getX rs2).setWidth 16).signExtend 32) ∧
      Writes (.lhu rd rs1 imm) t rd (((s.getX rs2).setWidth 16).setWidth 32)) ∧
    (exec (.sb rs1 rs2 imm) s = .next t →
      Writes (.lb rd rs1 imm) t rd (((s.getX rs2).setWidth 8).signExtend 32) ∧
      Writes (.lbu rd rs1 imm) t rd (((s.getX rs2).setWidth 8).setWidth 32))

/-- Back-to-back dependence (R34, R420, R422): an instruction computes with the old value of its own destination, and the next one reads the
new value, after an addition and after a load alike. -/
def Obligations.NextInstructionReadsTheNewValue : Prop :=
  ∀ (rd rs1 rd2 : RegIdx) (imm imm2 : BitVec 12) (s t : State), rd ≠ 0#5 →
    (exec (.addi rd rs1 imm) s = .next t →
      Writes (.addi rd2 rd imm2) t rd2 (s.getX rs1 + imm.signExtend 32 + imm2.signExtend 32)) ∧
    (∀ v : Word, exec (.lw rd rs1 imm) s = .next t → HoldsBytes s.dmem (s.getX rs1 + imm.signExtend 32) v 4 →
      Writes (.addi rd2 rd imm2) t rd2 (v + imm2.signExtend 32))

/-! ### The components (40_datapath.md) -/

/-- The ALU (R143), as arithmetic on numbers: each function's result, unsigned or signed, with the shift amount B mod 32. -/
def Obligations.AluComputesItsTable : Prop :=
  ∀ a b : Word,
    (alu .add a b).toNat = (a.toNat + b.toNat) % 2 ^ 32 ∧
    (alu .sub a b).toNat = (a.toNat + 2 ^ 32 - b.toNat) % 2 ^ 32 ∧
    (∀ i, (alu .and a b).getLsbD i = (a.getLsbD i && b.getLsbD i)) ∧
    (∀ i, (alu .or a b).getLsbD i = (a.getLsbD i || b.getLsbD i)) ∧
    (∀ i, (alu .xor a b).getLsbD i = (a.getLsbD i ^^ b.getLsbD i)) ∧
    alu .slt a b = (if a.toInt < b.toInt then 1#32 else 0#32) ∧
    alu .sltu a b = (if a.toNat < b.toNat then 1#32 else 0#32) ∧
    (alu .sll a b).toNat = a.toNat * 2 ^ (b.toNat % 32) % 2 ^ 32 ∧
    (alu .srl a b).toNat = a.toNat / 2 ^ (b.toNat % 32) ∧
    (alu .sra a b).toInt = a.toInt / 2 ^ (b.toNat % 32) ∧
    alu .invalid a b = 0#32

/-- The BranchFlags (R145, R146): the three comparisons; a cycle's ControlWord is made with those of the register values x[rs1] and x[rs2], for
either alu_src and whatever the immediate is, and does not depend on alu_src. -/
def Obligations.BranchFlagsCompareTheRawRegisters : Prop :=
  (∀ a b : Word, branchFlags a b =
    { eq := decide (a = b), ltSigned := decide (a.toInt < b.toInt), ltUnsigned := decide (a.toNat < b.toNat) }) ∧
  ∀ (s : State) (d : DecodedInstruction) (src : Bool) (imm : Word),
    controlOf s { d with aluSrc := src, imm := imm } =
      controlTable d.opClass d.memMode
        { eq := decide (s.getX d.rs1 = s.getX d.rs2)
          ltSigned := decide ((s.getX d.rs1).toInt < (s.getX d.rs2).toInt)
          ltUnsigned := decide ((s.getX d.rs1).toNat < (s.getX d.rs2).toNat) } ∧
    controlOf s { d with aluSrc := src } = controlOf s d

/-- The branch decision (R152): the eight rows. -/
def Obligations.BranchDecisionTable : Prop :=
  ∀ fl : BranchFlags,
    taken 0b000#3 fl = fl.eq ∧ taken 0b001#3 fl = !fl.eq ∧ taken 0b010#3 fl = false ∧ taken 0b011#3 fl = false ∧
    taken 0b100#3 fl = fl.ltSigned ∧ taken 0b101#3 fl = !fl.ltSigned ∧ taken 0b110#3 fl = fl.ltUnsigned ∧
    taken 0b111#3 fl = !fl.ltUnsigned

/-- The PC unit's selection (R164). -/
def Obligations.NextPcSelection : Prop :=
  ∀ boot pc4 br jal jalr : Word,
    (∀ op, nextPc true boot op pc4 br jal jalr = boot) ∧
    nextPc false boot .plus4 pc4 br jal jalr = pc4 ∧ nextPc false boot .branch pc4 br jal jalr = br ∧
    nextPc false boot .jal pc4 br jal jalr = jal ∧ nextPc false boot .jalr pc4 br jal jalr = jalr

/-- The write-back mux (R170); its fourth arm is never reached. -/
def Obligations.WriteBackSelection : Prop :=
  ∀ pc4 res ld : Word, writeBack .alu res ld pc4 = res ∧ writeBack .load res ld pc4 = ld ∧ writeBack .pc4 res ld pc4 = pc4

/-- The register-write column of the control table (R36, R151) is the instruction's destination: a word's ControlWord enables the write
exactly when its instruction has a destination, and the index is the decoded rd. -/
def Obligations.WriteEnableIsTheDestination : Prop :=
  ∀ (s : State) (w : Word), (controlOf s (decodeRecord w)).regWriteEnable = (destination (decode w)).isSome ∧
    ∀ rd, destination (decode w) = some rd → (decodeRecord w).rd = rd

/-- The data-memory signals (R65, R115, R118; the names and codes of R185 are the spec's decision D22, log 16): a LOAD and a STORE present their
address, mode and data; no other word presents an access. -/
def Obligations.MemorySignals : Prop :=
  ∀ (s : State) (w : Word),
    (outputs s w).imemAddr = s.pc ∧
    (fieldOpcode w = 0b0000011#7 →
      (outputs s w).dmemOp = 0b01#2 ∧ (outputs s w).dmemAddr = s.getX (fieldRs1 w) + (fieldImmI w).signExtend 32 ∧
        (outputs s w).dmemMode = fieldFunct3 w) ∧
    (fieldOpcode w = 0b0100011#7 →
      (outputs s w).dmemOp = 0b10#2 ∧ (outputs s w).dmemAddr = s.getX (fieldRs1 w) + (fieldImmS w).signExtend 32 ∧
        (outputs s w).dmemMode = 0#1 ++ (fieldFunct3 w).extractLsb' 0 2 ∧ (outputs s w).dmemWdata = s.getX (fieldRs2 w)) ∧
    (fieldOpcode w ≠ 0b0000011#7 → fieldOpcode w ≠ 0b0100011#7 → (outputs s w).dmemOp = 0b00#2)

/-! ### The whole machine -/

/-- The machine as the source builds it (40_datapath.md R180: Decoder record, ALU, ControlUnit, PC unit, write-back mux, memory collaborator)
and the machine of the instruction rules (41 to 48) are one machine: the same outcome in every state, faults, refusals and reset included. -/
def Obligations.DatapathRefinesTheInstructions : Prop :=
  ∀ s : State, datapathStep s = step s

/-- Every step keeps the invariant: memories in canonical form, register 0 stored as 0, the PC even. -/
def Obligations.EveryStepKeepsTheInvariant : Prop :=
  ∀ s t : State, s.Inv → step s = .next t → t.Inv

/-- The invariant holds at reset, and at every launch with memories in canonical form and an even boot address. (`State.reset` takes the boot
address 0: the model's choice, log 3.) -/
def Obligations.InvariantHoldsAtLaunch : Prop :=
  State.reset.Inv ∧
    ∀ (cfg : Config) (imem dmem : Memory), imem.wf → dmem.wf → cfg.bootAddr.getLsbD 0 = false → (State.launch cfg imem dmem).Inv

/-- R182, R371: with reset deasserted, a cycle to which the spec gives a meaning completes; and a step that stops does so with the spec's
outcome, the first in the spec's order, or where the spec's outcome is an unwritten register (at which the model goes on, log 1). -/
def Obligations.StepStopsWhereTheSpecDoes : Prop :=
  ∀ s : State, s.rst = false →
    (SpecDefined s → ∃ t, step s = .next t) ∧
    (∀ f, step s = .fault f → modelOutcome s = some (outcomeOfFault f) ∨ ∃ i, modelOutcome s = some (.unwrittenRegister i)) ∧
    (∀ r, step s = .refused r → r = .funct7_01 s.pc ∧ modelOutcome s = some (.funct7_01 s.pc)) ∧
    (∀ o, modelOutcome s = some o → (∀ i, o ≠ .unwrittenRegister i) → ∀ t, step s ≠ .next t)

/-- What unwritten registers hold never matters to a run the spec gives a meaning to (R46, R401): two states that agree on everything else step
to states that agree on everything else. So no value chosen for x1..x31 at reset (log 1) can be seen by such a run. -/
def Obligations.UnwrittenRegistersNeverMatter : Prop :=
  ∀ s t : State, s.sameWhereWritten t → SpecDefined s →
    ∃ s' t', step s = .next s' ∧ step t = .next t' ∧ s'.sameWhereWritten t'

/-- R80: where the premise NoSelfModify holds of a run and data memory starts with the image's bytes at every word the run fetches, it still
does at every state of the run: fetching from data memory would have given the same words, so a platform that unifies the two spaces runs the
same program. -/
def Obligations.NoSelfModifyMakesUnifiedMemoryExact : Prop :=
  ∀ (n : Nat) (s : State), NoSelfModify n s → (∀ u ∈ runStates n s, s.unifiedOn (stepFetches u)) →
    ∀ u ∈ runStates n s, ∀ v ∈ runStates n s, u.unifiedOn (stepFetches v)
end

