-- ==== Sys2Proof/Laws/Decode.lean ====
section
/-! SUPPORT. The fields of a packed word, and a word put together again from its fields: what the two directions of decoding and encoding
rest on. -/

namespace Sys2Proof

/-! ### The fields of `packFields` -/

section
variable (f7 : BitVec 7) (rs2 rs1 : RegIdx) (f3 : BitVec 3) (rd : RegIdx) (op : BitVec 7)

@[simp] theorem fieldOpcode_packFields : fieldOpcode (packFields f7 rs2 rs1 f3 rd op) = op := by
  refine BitVec.eq_of_getLsbD_eq fun i hi => ?_
  simp only [fieldOpcode, packFields, BitVec.getLsbD_extractLsb', BitVec.getLsbD_append]
  interval_cases i <;> simp

@[simp] theorem fieldRd_packFields : fieldRd (packFields f7 rs2 rs1 f3 rd op) = rd := by
  refine BitVec.eq_of_getLsbD_eq fun i hi => ?_
  simp only [fieldRd, packFields, BitVec.getLsbD_extractLsb', BitVec.getLsbD_append]
  interval_cases i <;> simp

@[simp] theorem fieldFunct3_packFields : fieldFunct3 (packFields f7 rs2 rs1 f3 rd op) = f3 := by
  refine BitVec.eq_of_getLsbD_eq fun i hi => ?_
  simp only [fieldFunct3, packFields, BitVec.getLsbD_extractLsb', BitVec.getLsbD_append]
  interval_cases i <;> simp

@[simp] theorem fieldRs1_packFields : fieldRs1 (packFields f7 rs2 rs1 f3 rd op) = rs1 := by
  refine BitVec.eq_of_getLsbD_eq fun i hi => ?_
  simp only [fieldRs1, packFields, BitVec.getLsbD_extractLsb', BitVec.getLsbD_append]
  interval_cases i <;> simp

@[simp] theorem fieldRs2_packFields : fieldRs2 (packFields f7 rs2 rs1 f3 rd op) = rs2 := by
  refine BitVec.eq_of_getLsbD_eq fun i hi => ?_
  simp only [fieldRs2, packFields, BitVec.getLsbD_extractLsb', BitVec.getLsbD_append]
  interval_cases i <;> simp

@[simp] theorem fieldFunct7_packFields : fieldFunct7 (packFields f7 rs2 rs1 f3 rd op) = f7 := by
  refine BitVec.eq_of_getLsbD_eq fun i hi => ?_
  simp only [fieldFunct7, packFields, BitVec.getLsbD_extractLsb', BitVec.getLsbD_append]
  interval_cases i <;> simp

end

/-- A word is its six fields (R91). -/
theorem packFields_fields (w : Word) :
    packFields (fieldFunct7 w) (fieldRs2 w) (fieldRs1 w) (fieldFunct3 w) (fieldRd w) (fieldOpcode w) = w := by
  refine BitVec.eq_of_getLsbD_eq fun i hi => ?_
  simp only [fieldFunct7, fieldRs2, fieldRs1, fieldFunct3, fieldRd, fieldOpcode, packFields, BitVec.getLsbD_extractLsb',
    BitVec.getLsbD_append]
  interval_cases i <;> simp

/-- Two words with the same six fields are one word. -/
theorem eq_of_fields_eq {w w' : Word} (h7 : fieldFunct7 w = fieldFunct7 w') (h2 : fieldRs2 w = fieldRs2 w')
    (h1 : fieldRs1 w = fieldRs1 w') (h3 : fieldFunct3 w = fieldFunct3 w') (hd : fieldRd w = fieldRd w')
    (ho : fieldOpcode w = fieldOpcode w') : w = w' := by
  rw [← packFields_fields w, h7, h2, h1, h3, hd, ho, packFields_fields]

/-! ### The fields of a word packed in each format -/

@[simp] theorem fieldOpcode_packI (imm : BitVec 12) (rs1 : RegIdx) (f3 : BitVec 3) (rd : RegIdx) (op : BitVec 7) :
    fieldOpcode (packI imm rs1 f3 rd op) = op := by simp [packI]
@[simp] theorem fieldFunct3_packI (imm : BitVec 12) (rs1 : RegIdx) (f3 : BitVec 3) (rd : RegIdx) (op : BitVec 7) :
    fieldFunct3 (packI imm rs1 f3 rd op) = f3 := by simp [packI]
@[simp] theorem fieldRd_packI (imm : BitVec 12) (rs1 : RegIdx) (f3 : BitVec 3) (rd : RegIdx) (op : BitVec 7) :
    fieldRd (packI imm rs1 f3 rd op) = rd := by simp [packI]
@[simp] theorem fieldRs1_packI (imm : BitVec 12) (rs1 : RegIdx) (f3 : BitVec 3) (rd : RegIdx) (op : BitVec 7) :
    fieldRs1 (packI imm rs1 f3 rd op) = rs1 := by simp [packI]
@[simp] theorem fieldOpcode_packS (imm : BitVec 12) (rs2 rs1 : RegIdx) (f3 : BitVec 3) (op : BitVec 7) :
    fieldOpcode (packS imm rs2 rs1 f3 op) = op := by simp [packS]
@[simp] theorem fieldFunct3_packS (imm : BitVec 12) (rs2 rs1 : RegIdx) (f3 : BitVec 3) (op : BitVec 7) :
    fieldFunct3 (packS imm rs2 rs1 f3 op) = f3 := by simp [packS]
@[simp] theorem fieldRs1_packS (imm : BitVec 12) (rs2 rs1 : RegIdx) (f3 : BitVec 3) (op : BitVec 7) :
    fieldRs1 (packS imm rs2 rs1 f3 op) = rs1 := by simp [packS]
@[simp] theorem fieldRs2_packS (imm : BitVec 12) (rs2 rs1 : RegIdx) (f3 : BitVec 3) (op : BitVec 7) :
    fieldRs2 (packS imm rs2 rs1 f3 op) = rs2 := by simp [packS]
@[simp] theorem fieldOpcode_packB (imm : BitVec 13) (rs2 rs1 : RegIdx) (f3 : BitVec 3) (op : BitVec 7) :
    fieldOpcode (packB imm rs2 rs1 f3 op) = op := by simp [packB]
@[simp] theorem fieldFunct3_packB (imm : BitVec 13) (rs2 rs1 : RegIdx) (f3 : BitVec 3) (op : BitVec 7) :
    fieldFunct3 (packB imm rs2 rs1 f3 op) = f3 := by simp [packB]
@[simp] theorem fieldRs1_packB (imm : BitVec 13) (rs2 rs1 : RegIdx) (f3 : BitVec 3) (op : BitVec 7) :
    fieldRs1 (packB imm rs2 rs1 f3 op) = rs1 := by simp [packB]
@[simp] theorem fieldRs2_packB (imm : BitVec 13) (rs2 rs1 : RegIdx) (f3 : BitVec 3) (op : BitVec 7) :
    fieldRs2 (packB imm rs2 rs1 f3 op) = rs2 := by simp [packB]
@[simp] theorem fieldOpcode_packU (imm20 : BitVec 20) (rd : RegIdx) (op : BitVec 7) :
    fieldOpcode (packU imm20 rd op) = op := by simp [packU]
@[simp] theorem fieldRd_packU (imm20 : BitVec 20) (rd : RegIdx) (op : BitVec 7) :
    fieldRd (packU imm20 rd op) = rd := by simp [packU]
@[simp] theorem fieldOpcode_packJ (imm : BitVec 21) (rd : RegIdx) (op : BitVec 7) :
    fieldOpcode (packJ imm rd op) = op := by simp [packJ]
@[simp] theorem fieldRd_packJ (imm : BitVec 21) (rd : RegIdx) (op : BitVec 7) :
    fieldRd (packJ imm rd op) = rd := by simp [packJ]

/-! ### Immediate fields of a packed word -/

@[simp] theorem fieldImmI_packI (imm : BitVec 12) (rs1 : RegIdx) (f3 : BitVec 3) (rd : RegIdx) (op : BitVec 7) :
    fieldImmI (packI imm rs1 f3 rd op) = imm := by
  refine BitVec.eq_of_getLsbD_eq fun i hi => ?_
  simp only [fieldImmI, packI, packFields, BitVec.getLsbD_extractLsb', BitVec.getLsbD_append]
  interval_cases i <;> simp

@[simp] theorem fieldImmS_packS (imm : BitVec 12) (rs2 rs1 : RegIdx) (f3 : BitVec 3) (op : BitVec 7) :
    fieldImmS (packS imm rs2 rs1 f3 op) = imm := by
  refine BitVec.eq_of_getLsbD_eq fun i hi => ?_
  simp only [fieldImmS, packS, packFields, BitVec.getLsbD_extractLsb', BitVec.getLsbD_append]
  interval_cases i <;> simp

@[simp] theorem fieldImmU_packU (imm20 : BitVec 20) (rd : RegIdx) (op : BitVec 7) : fieldImmU (packU imm20 rd op) = imm20 := by
  refine BitVec.eq_of_getLsbD_eq fun i hi => ?_
  simp only [fieldImmU, packU, packFields, BitVec.getLsbD_extractLsb', BitVec.getLsbD_append]
  interval_cases i <;> simp

/-- The B format drops bit 0, which an even offset has clear (R96). -/
theorem fieldImmB_packB {imm : BitVec 13} (h : evenOffset imm = true) (rs2 rs1 : RegIdx) (f3 : BitVec 3) (op : BitVec 7) :
    fieldImmB (packB imm rs2 rs1 f3 op) = imm := by
  have h0 : imm.getLsbD 0 = false := by simpa [evenOffset] using h
  refine BitVec.eq_of_getLsbD_eq fun i hi => ?_
  simp only [fieldImmB, packB, packFields, BitVec.getLsbD_extractLsb', BitVec.getLsbD_append]
  interval_cases i <;> simp_all

/-- The J format drops bit 0, which an even offset has clear (R98). -/
theorem fieldImmJ_packJ {imm : BitVec 21} (h : evenOffset imm = true) (rd : RegIdx) (op : BitVec 7) :
    fieldImmJ (packJ imm rd op) = imm := by
  have h0 : imm.getLsbD 0 = false := by simpa [evenOffset] using h
  refine BitVec.eq_of_getLsbD_eq fun i hi => ?_
  simp only [fieldImmJ, packJ, packFields, BitVec.getLsbD_extractLsb', BitVec.getLsbD_append]
  interval_cases i <;> simp_all

/-! ### A word from its immediate and its other fields -/

theorem packI_fields (w : Word) : packI (fieldImmI w) (fieldRs1 w) (fieldFunct3 w) (fieldRd w) (fieldOpcode w) = w := by
  refine BitVec.eq_of_getLsbD_eq fun i hi => ?_
  simp only [fieldImmI, fieldRs1, fieldFunct3, fieldRd, fieldOpcode, packI, packFields, BitVec.getLsbD_extractLsb',
    BitVec.getLsbD_append]
  interval_cases i <;> simp

theorem packS_fields (w : Word) : packS (fieldImmS w) (fieldRs2 w) (fieldRs1 w) (fieldFunct3 w) (fieldOpcode w) = w := by
  refine BitVec.eq_of_getLsbD_eq fun i hi => ?_
  simp only [fieldImmS, fieldRs2, fieldRs1, fieldFunct3, fieldOpcode, packS, packFields, BitVec.getLsbD_extractLsb',
    BitVec.getLsbD_append]
  interval_cases i <;> simp

theorem packB_fields (w : Word) : packB (fieldImmB w) (fieldRs2 w) (fieldRs1 w) (fieldFunct3 w) (fieldOpcode w) = w := by
  refine BitVec.eq_of_getLsbD_eq fun i hi => ?_
  simp only [fieldImmB, fieldRs2, fieldRs1, fieldFunct3, fieldOpcode, packB, packFields, BitVec.getLsbD_extractLsb',
    BitVec.getLsbD_append]
  interval_cases i <;> simp

theorem packU_fields (w : Word) : packU (fieldImmU w) (fieldRd w) (fieldOpcode w) = w := by
  refine BitVec.eq_of_getLsbD_eq fun i hi => ?_
  simp only [fieldImmU, fieldRd, fieldOpcode, packU, packFields, BitVec.getLsbD_extractLsb', BitVec.getLsbD_append]
  interval_cases i <;> simp

theorem packJ_fields (w : Word) : packJ (fieldImmJ w) (fieldRd w) (fieldOpcode w) = w := by
  refine BitVec.eq_of_getLsbD_eq fun i hi => ?_
  simp only [fieldImmJ, fieldRd, fieldOpcode, packJ, packFields, BitVec.getLsbD_extractLsb', BitVec.getLsbD_append]
  interval_cases i <;> simp

/-! ### The masks of the opcode table (R129), as tests on fields -/

theorem and_mask_opcode (w : Word) : w &&& 0x0000007F#32 = packFields 0#7 0#5 0#5 0#3 0#5 (fieldOpcode w) := by
  refine BitVec.eq_of_getLsbD_eq fun i hi => ?_
  simp only [fieldOpcode, packFields, BitVec.getLsbD_and, BitVec.getLsbD_extractLsb',
    BitVec.getLsbD_append, BitVec.getLsbD_ofNat]
  interval_cases i <;> simp [Nat.testBit]

theorem and_mask_funct3 (w : Word) : w &&& 0x0000707F#32 = packFields 0#7 0#5 0#5 (fieldFunct3 w) 0#5 (fieldOpcode w) := by
  refine BitVec.eq_of_getLsbD_eq fun i hi => ?_
  simp only [fieldFunct3, fieldOpcode, packFields, BitVec.getLsbD_and, BitVec.getLsbD_extractLsb',
    BitVec.getLsbD_append, BitVec.getLsbD_ofNat]
  interval_cases i <;> simp [Nat.testBit]

theorem and_mask_funct7 (w : Word) : w &&& 0xFE00707F#32 = packFields (fieldFunct7 w) 0#5 0#5 (fieldFunct3 w) 0#5 (fieldOpcode w) := by
  refine BitVec.eq_of_getLsbD_eq fun i hi => ?_
  simp only [fieldFunct7, fieldFunct3, fieldOpcode, packFields, BitVec.getLsbD_and, BitVec.getLsbD_extractLsb',
    BitVec.getLsbD_append, BitVec.getLsbD_ofNat]
  interval_cases i <;> simp [Nat.testBit]

theorem and_mask_funct7_bit5 (w : Word) : w &&& 0x4000707F#32 = packFields (fieldFunct7 w &&& 0b0100000#7) 0#5 0#5 (fieldFunct3 w) 0#5 (fieldOpcode w) := by
  refine BitVec.eq_of_getLsbD_eq fun i hi => ?_
  simp only [fieldFunct7, fieldFunct3, fieldOpcode, packFields, BitVec.getLsbD_and, BitVec.getLsbD_extractLsb',
    BitVec.getLsbD_append, BitVec.getLsbD_ofNat]
  interval_cases i <;> simp [Nat.testBit]

theorem and_mask_funct3_low (w : Word) : w &&& 0x0000307F#32 = packFields 0#7 0#5 0#5 (fieldFunct3 w &&& 0b011#3) 0#5 (fieldOpcode w) := by
  refine BitVec.eq_of_getLsbD_eq fun i hi => ?_
  simp only [fieldFunct3, fieldOpcode, packFields, BitVec.getLsbD_and, BitVec.getLsbD_extractLsb',
    BitVec.getLsbD_append, BitVec.getLsbD_ofNat]
  interval_cases i <;> simp [Nat.testBit]

theorem and_mask_funct3_high (w : Word) : w &&& 0x0000607F#32 = packFields 0#7 0#5 0#5 (fieldFunct3 w &&& 0b110#3) 0#5 (fieldOpcode w) := by
  refine BitVec.eq_of_getLsbD_eq fun i hi => ?_
  simp only [fieldFunct3, fieldOpcode, packFields, BitVec.getLsbD_and, BitVec.getLsbD_extractLsb',
    BitVec.getLsbD_append, BitVec.getLsbD_ofNat]
  interval_cases i <;> simp [Nat.testBit]

theorem and_mask_funct7_rd (w : Word) : w &&& 0xFE007FFF#32 = packFields (fieldFunct7 w) 0#5 0#5 (fieldFunct3 w) (fieldRd w) (fieldOpcode w) := by
  refine BitVec.eq_of_getLsbD_eq fun i hi => ?_
  simp only [fieldFunct7, fieldFunct3, fieldRd, fieldOpcode, packFields, BitVec.getLsbD_and, BitVec.getLsbD_extractLsb',
    BitVec.getLsbD_append, BitVec.getLsbD_ofNat]
  interval_cases i <;> simp [Nat.testBit]

theorem and_bit5_of_nonStandardSet {f7 : BitVec 7} (h : nonStandardFunct7Bit5Set f7 = true) :
    f7 &&& 0b0100000#7 = 0b0100000#7 := by
  revert f7; decide

theorem and_bit5_of_nonStandardClear {f7 : BitVec 7} (h : nonStandardFunct7Bit5Clear f7 = true) :
    f7 &&& 0b0100000#7 = 0b0000000#7 := by
  revert f7; decide

theorem append_low_and (f3hi : BitVec 1) : (f3hi ++ 0b11#2 : BitVec 3) &&& 0b011#3 = 0b011#3 := by
  revert f3hi; decide

theorem append_high_and (f3lo : BitVec 1) : (0b01#2 ++ f3lo : BitVec 3) &&& 0b110#3 = 0b010#3 := by
  revert f3lo; decide

@[simp] theorem fieldOpcode_appendOpcode (bits : BitVec 25) (op : BitVec 7) : fieldOpcode (bits ++ op) = op := by
  refine BitVec.eq_of_getLsbD_eq fun i hi => ?_
  simp only [fieldOpcode, BitVec.getLsbD_extractLsb', BitVec.getLsbD_append]
  interval_cases i <;> simp

/-! ### Bytes -/

/-- A word is its four bytes, little-endian (R63). -/
theorem wordBytes_append (w : Word) :
    (w.extractLsb' 24 8 ++ w.extractLsb' 16 8 ++ w.extractLsb' 8 8 ++ w.extractLsb' 0 8 : BitVec 32) = w := by
  refine BitVec.eq_of_getLsbD_eq fun i hi => ?_
  simp only [BitVec.getLsbD_extractLsb', BitVec.getLsbD_append]
  interval_cases i <;> simp

/-- The decoder reads a word's own bytes as that word, whatever follows them. -/
theorem decodeBytes_wordBytes (w : Word) (rest : List Byte) : decodeBytes (wordBytes w ++ rest) = .ok (decode w, rest) := by
  show Except.ok (decode (_ : BitVec 32), rest) = _
  rw [wordBytes_append]

end Sys2Proof
end

