-- ==== Sys2Proof/Laws/Memory.lean ====
section
/-! SUPPORT. The laws of memory: read after write, the canonical form, and what the multi-byte accesses do byte by byte. -/

namespace Sys2Proof.Machine

@[simp] theorem Memory.read_nil (a : Nat) : Memory.read [] a = none := rfl

theorem Memory.read_cons (k : Nat) (v : Byte) (m : Memory) (a : Nat) :
    Memory.read ((k, v) :: m) a = if k = a then some v else Memory.read m a := rfl

/-- An address below every listed one is not listed. -/
theorem Memory.read_none_of_lt {m : Memory} {a : Nat} (h : ∀ c ∈ m, a < c.1) : m.read a = none := by
  induction m with
  | nil => rfl
  | cons c m ih =>
    obtain ⟨k, v⟩ := c
    have hk : a < k := h (k, v) (List.mem_cons_self ..)
    rw [Memory.read_cons, if_neg (by omega)]
    exact ih fun c hc => h c (List.mem_cons_of_mem _ hc)

/-- Reading after a write: the new byte there, the old one everywhere else. No premise on the form of the memory. -/
theorem Memory.read_write (m : Memory) (a : Nat) (v : Byte) (b : Nat) :
    (m.write a v).read b = if b = a then some v else m.read b := by
  induction m with
  | nil => simp [Memory.write, Memory.read_cons, eq_comm]
  | cons c m ih =>
    obtain ⟨k, w⟩ := c
    unfold Memory.write
    split
    · simp [Memory.read_cons, eq_comm]
    · split
      · subst_vars
        simp only [Memory.read_cons, eq_comm]
        split <;> rfl
      · rename_i h1 h2
        simp only [Memory.read_cons, ih]
        by_cases hb : b = a
        · subst hb; simp [Ne.symm h2]
        · simp [hb]

@[simp] theorem Memory.read_write_same (m : Memory) (a : Nat) (v : Byte) : (m.write a v).read a = some v := by
  simp [Memory.read_write]

@[simp] theorem Memory.read_write_ne {a b : Nat} (h : b ≠ a) (m : Memory) (v : Byte) : (m.write a v).read b = m.read b := by
  simp [Memory.read_write, h]

/-- Every entry of a written memory is the new one or an old one. -/
theorem Memory.mem_write {m : Memory} {a : Nat} {v : Byte} {c : Host.Cell} (h : c ∈ m.write a v) : c = (a, v) ∨ c ∈ m := by
  induction m with
  | nil => simpa [Memory.write] using h
  | cons d m ih =>
    obtain ⟨k, w⟩ := d
    unfold Memory.write at h
    split at h
    · simpa using h
    · split at h
      · rcases List.mem_cons.mp h with h | h
        · exact .inl h
        · exact .inr (List.mem_cons_of_mem _ h)
      · rcases List.mem_cons.mp h with h | h
        · exact .inr (h ▸ List.mem_cons_self ..)
        · exact (ih h).imp_right (List.mem_cons_of_mem _)

@[simp] theorem Memory.wf_nil : Memory.wf [] := ⟨.nil, by simp⟩

/-- A write keeps the canonical form. -/
theorem Memory.write_wf {m : Memory} {a : Nat} (h : m.wf) (ha : a < 2 ^ 32) (v : Byte) : (m.write a v).wf := by
  refine ⟨?_, fun c hc => ?_⟩
  · induction m with
    | nil => simp [Memory.write]
    | cons d m ih =>
      obtain ⟨k, w⟩ := d
      obtain ⟨hp, hb⟩ := h
      obtain ⟨hk, hm⟩ := List.pairwise_cons.mp hp
      have ih' := ih ⟨hm, fun c hc => hb c (List.mem_cons_of_mem _ hc)⟩
      unfold Memory.write
      split
      · rename_i hak
        refine List.pairwise_cons.mpr ⟨fun c hc => ?_, hp⟩
        rcases List.mem_cons.mp hc with rfl | hc
        · exact hak
        · exact Nat.lt_trans hak (hk c hc)
      · split
        · subst_vars; exact List.pairwise_cons.mpr ⟨hk, hm⟩
        · refine List.pairwise_cons.mpr ⟨fun c hc => ?_, ih'⟩
          rcases Memory.mem_write hc with rfl | hc
          · show k < a; omega
          · exact hk c hc
  · rcases Memory.mem_write hc with rfl | hc
    · exact ha
    · exact h.2 c hc

/-- Two memories in canonical form that read alike everywhere are equal. -/
theorem Memory.eq_of_read_eq {m m' : Memory} (h : m.wf) (h' : m'.wf) (hr : ∀ a, m.read a = m'.read a) : m = m' := by
  induction m generalizing m' with
  | nil =>
    cases m' with
    | nil => rfl
    | cons d m' => have := hr d.1; obtain ⟨k, w⟩ := d; simp [Memory.read_cons] at this
  | cons c m ih =>
    obtain ⟨k, v⟩ := c
    cases m' with
    | nil => have := hr k; simp [Memory.read_cons] at this
    | cons d m' =>
      obtain ⟨k', v'⟩ := d
      obtain ⟨hk, hm⟩ := List.pairwise_cons.mp h.1
      obtain ⟨hk', hm'⟩ := List.pairwise_cons.mp h'.1
      have e1 := hr k
      have e2 := hr k'
      simp only [Memory.read_cons, if_true] at e1 e2
      have hkk : k = k' := by
        by_contra hne
        rw [if_neg (Ne.symm hne)] at e1
        rw [if_neg hne] at e2
        rcases Nat.lt_or_gt_of_ne hne with hlt | hlt
        · have := Memory.read_none_of_lt (m := m') (a := k) fun c hc => Nat.lt_trans hlt (hk' c hc)
          rw [this] at e1; cases e1
        · have := Memory.read_none_of_lt (m := m) (a := k') fun c hc => Nat.lt_trans hlt (hk c hc)
          rw [this] at e2; cases e2
      subst hkk
      rw [if_pos rfl] at e1
      have hv : v = v' := by simpa using e1
      subst hv
      congr 1
      refine ih ⟨hm, fun c hc => h.2 c (List.mem_cons_of_mem _ hc)⟩ ⟨hm', fun c hc => h'.2 c (List.mem_cons_of_mem _ hc)⟩ fun a => ?_
      by_cases hka : k = a
      · subst hka
        rw [Memory.read_none_of_lt fun c hc => hk c hc, Memory.read_none_of_lt fun c hc => hk' c hc]
      · simpa [Memory.read_cons, hka] using hr a

/-! ### Multi-byte accesses -/

theorem byteAddr_toNat (a : Word) (k : Nat) : (byteAddr a k).toNat = (a.toNat + k) % 2 ^ 32 := by
  simp [byteAddr, BitVec.toNat_add, BitVec.toNat_ofNat]

/-- The bytes of one access have different addresses. -/
theorem byteAddr_inj {a : Word} {j k : Nat} (hj : j < 2 ^ 32) (hk : k < 2 ^ 32) (h : byteAddr a j = byteAddr a k) : j = k := by
  have := congrArg BitVec.toNat h
  rw [byteAddr_toNat, byteAddr_toNat] at this
  omega

/-- R67, outside the access: a byte none of whose addresses is written keeps its value. -/
theorem Memory.read_writeLE_outside {m : Memory} {a v : Word} {n b : Nat} (h : ∀ k < n, b ≠ (byteAddr a k).toNat) :
    (m.writeLE a v n).read b = m.read b := by
  induction n with
  | zero => rfl
  | succ n ih =>
    rw [Memory.writeLE, Memory.read_write_ne (h n (Nat.lt_succ_self n))]
    exact ih fun k hk => h k (Nat.lt_succ_of_lt hk)

/-- R67, inside the access: byte `k` holds `v[8k+7:8k]`. -/
theorem Memory.read_writeLE_inside {m : Memory} {a v : Word} {n k : Nat} (hk : k < n) (hn : n ≤ 4) :
    (m.writeLE a v n).read (byteAddr a k).toNat = some (v.extractLsb' (8 * k) 8) := by
  induction n with
  | zero => omega
  | succ n ih =>
    rw [Memory.writeLE]
    by_cases hkn : k = n
    · subst hkn; simp
    · have hne : (byteAddr a k).toNat ≠ (byteAddr a n).toNat := fun h =>
        hkn (byteAddr_inj (by omega) (by omega) (BitVec.eq_of_toNat_eq h))
      rw [Memory.read_write_ne hne]
      exact ih (by omega) (by omega)

/-- A multi-byte write keeps the canonical form. -/
theorem Memory.writeLE_wf {m : Memory} (h : m.wf) (a v : Word) (n : Nat) : (m.writeLE a v n).wf := by
  induction n with
  | zero => exact h
  | succ n ih => exact Memory.write_wf ih (byteAddr a n).isLt _

/-- The low `n` bytes of a word and byte `n` above them, bit by bit. -/
theorem getLsbD_or_shiftedByte (w : Word) (b : Byte) (n i : Nat) :
    (w ||| b.setWidth 32 <<< (8 * n)).getLsbD i
      = (w.getLsbD i || (decide (i < 32) && !decide (i < 8 * n) && b.getLsbD (i - 8 * n))) := by
  by_cases h : i < 32
  · have : i - 8 * n < 32 := by omega
    simp only [BitVec.getLsbD_or, BitVec.getLsbD_shiftLeft, BitVec.getLsbD_setWidth, h, this, decide_true, Bool.true_and]
  · simp only [BitVec.getLsbD_or, BitVec.getLsbD_shiftLeft, h, decide_false, Bool.false_and]

/-- R66: what a multi-byte read answers, byte by byte: every byte has a value, they stand little-endian, and the bits above are 0. -/
theorem Memory.readLE_eq_some {m : Memory} {a v : Word} {n : Nat} (hn : n ≤ 4) :
    m.readLE a n = some v ↔
      (∀ k < n, m.read (byteAddr a k).toNat = some (v.extractLsb' (8 * k) 8)) ∧ ∀ i, 8 * n ≤ i → v.getLsbD i = false := by
  induction n generalizing v with
  | zero =>
    simp only [Memory.readLE, Option.some.injEq, Nat.not_lt_zero, false_implies, implies_true, true_and, Nat.mul_zero, Nat.zero_le]
    constructor
    · rintro rfl i; simp
    · intro h; exact BitVec.eq_of_getLsbD_eq fun i _ => by simp [h i]
  | succ n ih =>
    simp only [Memory.readLE]
    constructor
    · intro h
      split at h
      · rename_i w b hw hb
        obtain ⟨hlow, hhigh⟩ := (ih (by omega)).mp hw
        obtain rfl : w ||| BitVec.setWidth 32 b <<< (8 * n) = v := by simpa using h
        refine ⟨fun k hk => ?_, fun i hi => ?_⟩
        · rcases Nat.lt_succ_iff_lt_or_eq.mp hk with hlt | rfl
          · rw [hlow k hlt]
            congr 1
            refine BitVec.eq_of_getLsbD_eq fun i hi => ?_
            simp only [BitVec.getLsbD_extractLsb', getLsbD_or_shiftedByte, show 8 * k + i < 8 * n by omega, decide_true, Bool.not_true,
              Bool.and_false, Bool.false_and, Bool.or_false]
          · rw [hb]
            congr 1
            refine BitVec.eq_of_getLsbD_eq fun i hi => ?_
            simp only [BitVec.getLsbD_extractLsb', getLsbD_or_shiftedByte, hi, hhigh (8 * k + i) (by omega),
              show 8 * k + i < 32 by omega, show ¬8 * k + i < 8 * k by omega, show 8 * k + i - 8 * k = i by omega, decide_true,
              decide_false, Bool.not_false, Bool.and_self, Bool.true_and, Bool.false_or]
        · rw [getLsbD_or_shiftedByte, hhigh i (by omega), BitVec.getLsbD_of_ge b (i - 8 * n) (by omega)]
          simp
      · cases h
    · rintro ⟨hlow, hhigh⟩
      have hw : m.readLE a n = some ((v.extractLsb' 0 (8 * n)).setWidth 32) := by
        refine (ih (by omega)).mpr ⟨fun k hk => ?_, fun i hi => ?_⟩
        · rw [hlow k (by omega)]
          congr 1
          refine BitVec.eq_of_getLsbD_eq fun i hi => ?_
          simp only [BitVec.getLsbD_extractLsb', BitVec.getLsbD_setWidth, hi, show 8 * k + i < 32 by omega,
            show 8 * k + i < 8 * n by omega, decide_true, Bool.true_and, Nat.zero_add]
        · simp only [BitVec.getLsbD_extractLsb', BitVec.getLsbD_setWidth, show ¬i < 8 * n by omega, decide_false, Bool.false_and,
            Bool.and_false]
      rw [hw, hlow n (by omega)]
      simp only [Option.some.injEq]
      refine BitVec.eq_of_getLsbD_eq fun i hi => ?_
      simp only [getLsbD_or_shiftedByte, BitVec.getLsbD_extractLsb', BitVec.getLsbD_setWidth, hi, decide_true, Bool.true_and,
        Nat.zero_add]
      by_cases h1 : i < 8 * n
      · simp only [h1, decide_true, Bool.true_and, Bool.not_true, Bool.false_and, Bool.or_false]
      · by_cases h2 : i - 8 * n < 8
        · simp only [h1, h2, decide_true, decide_false, Bool.false_and, Bool.not_false, Bool.true_and, Bool.false_or,
            show 8 * n + (i - 8 * n) = i by omega]
        · rw [hhigh i (by omega)]
          simp only [h1, h2, decide_false, Bool.false_and, Bool.and_false, Bool.or_false]

/-- A read depends only on the bytes it reads. -/
theorem Memory.readLE_congr {m m' : Memory} {a : Word} {n : Nat}
    (h : ∀ k < n, m.read (byteAddr a k).toNat = m'.read (byteAddr a k).toNat) : m.readLE a n = m'.readLE a n := by
  induction n with
  | zero => rfl
  | succ n ih => simp only [Memory.readLE, h n (Nat.lt_succ_self n), ih fun k hk => h k (Nat.lt_succ_of_lt hk)]

end Sys2Proof.Machine
end

