-- ==== Sys2Proof/Laws/State.lean ====
section
/-! SUPPORT. The small lemmas of the state's updates: one per field per update, and the reads of a register after each. -/

namespace Sys2Proof.Machine

/-! ### `jump` and `advance` -/

@[simp] theorem State.jump_pc (s : State) (t : Word) : (s.jump t).pc = t := rfl
@[simp] theorem State.jump_x (s : State) (t : Word) : (s.jump t).x = s.x := rfl
@[simp] theorem State.jump_written (s : State) (t : Word) : (s.jump t).written = s.written := rfl
@[simp] theorem State.jump_dmem (s : State) (t : Word) : (s.jump t).dmem = s.dmem := rfl
@[simp] theorem State.jump_imem (s : State) (t : Word) : (s.jump t).imem = s.imem := rfl
@[simp] theorem State.jump_rst (s : State) (t : Word) : (s.jump t).rst = s.rst := rfl
@[simp] theorem State.jump_cfg (s : State) (t : Word) : (s.jump t).cfg = s.cfg := rfl
@[simp] theorem State.jump_getX (s : State) (t : Word) (i : RegIdx) : (s.jump t).getX i = s.getX i := rfl
@[simp] theorem State.jump_hasWritten (s : State) (t : Word) (i : RegIdx) : (s.jump t).hasWritten i = s.hasWritten i := rfl
@[simp] theorem State.jump_jump (s : State) (t u : Word) : (s.jump t).jump u = s.jump u := rfl

theorem State.advance_eq_jump (s : State) : s.advance = s.jump (s.pc + 4#32) := rfl
@[simp] theorem State.advance_pc (s : State) : s.advance.pc = s.pc + 4#32 := rfl
@[simp] theorem State.advance_x (s : State) : s.advance.x = s.x := rfl
@[simp] theorem State.advance_written (s : State) : s.advance.written = s.written := rfl
@[simp] theorem State.advance_dmem (s : State) : s.advance.dmem = s.dmem := rfl
@[simp] theorem State.advance_imem (s : State) : s.advance.imem = s.imem := rfl
@[simp] theorem State.advance_rst (s : State) : s.advance.rst = s.rst := rfl
@[simp] theorem State.advance_cfg (s : State) : s.advance.cfg = s.cfg := rfl
@[simp] theorem State.advance_getX (s : State) (i : RegIdx) : s.advance.getX i = s.getX i := rfl
@[simp] theorem State.advance_hasWritten (s : State) (i : RegIdx) : s.advance.hasWritten i = s.hasWritten i := rfl

/-! ### `withDmem` -/

@[simp] theorem State.withDmem_pc (s : State) (m : Memory) : (s.withDmem m).pc = s.pc := rfl
@[simp] theorem State.withDmem_x (s : State) (m : Memory) : (s.withDmem m).x = s.x := rfl
@[simp] theorem State.withDmem_written (s : State) (m : Memory) : (s.withDmem m).written = s.written := rfl
@[simp] theorem State.withDmem_dmem (s : State) (m : Memory) : (s.withDmem m).dmem = m := rfl
@[simp] theorem State.withDmem_imem (s : State) (m : Memory) : (s.withDmem m).imem = s.imem := rfl
@[simp] theorem State.withDmem_rst (s : State) (m : Memory) : (s.withDmem m).rst = s.rst := rfl
@[simp] theorem State.withDmem_cfg (s : State) (m : Memory) : (s.withDmem m).cfg = s.cfg := rfl
@[simp] theorem State.withDmem_getX (s : State) (m : Memory) (i : RegIdx) : (s.withDmem m).getX i = s.getX i := rfl
@[simp] theorem State.withDmem_hasWritten (s : State) (m : Memory) (i : RegIdx) : (s.withDmem m).hasWritten i = s.hasWritten i := rfl
@[simp] theorem State.withDmem_self (s : State) : s.withDmem s.dmem = s := rfl

/-! ### `setX` -/

theorem State.setX_zero (s : State) (v : Word) : s.setX 0#5 v = s := rfl

theorem State.setX_of_ne {i : RegIdx} (h : i ≠ 0#5) (s : State) (v : Word) :
    s.setX i v = { s with x := s.x.set i.toNat v, written := s.written.set i.toNat true } := if_neg h

@[simp] theorem State.setX_pc (s : State) (i : RegIdx) (v : Word) : (s.setX i v).pc = s.pc := by
  unfold State.setX; split <;> rfl
@[simp] theorem State.setX_dmem (s : State) (i : RegIdx) (v : Word) : (s.setX i v).dmem = s.dmem := by
  unfold State.setX; split <;> rfl
@[simp] theorem State.setX_imem (s : State) (i : RegIdx) (v : Word) : (s.setX i v).imem = s.imem := by
  unfold State.setX; split <;> rfl
@[simp] theorem State.setX_rst (s : State) (i : RegIdx) (v : Word) : (s.setX i v).rst = s.rst := by
  unfold State.setX; split <;> rfl
@[simp] theorem State.setX_cfg (s : State) (i : RegIdx) (v : Word) : (s.setX i v).cfg = s.cfg := by
  unfold State.setX; split <;> rfl

@[simp] theorem State.getX_zero (s : State) : s.getX 0#5 = 0#32 := rfl

theorem State.getX_of_ne {i : RegIdx} (h : i ≠ 0#5) (s : State) : s.getX i = s.x[i.toNat] := if_neg h

@[simp] theorem State.hasWritten_zero (s : State) : s.hasWritten 0#5 = true := rfl

/-- Reading any register after a write: the new value at a nonzero index, the old one everywhere else. -/
theorem State.getX_setX (s : State) (i j : RegIdx) (v : Word) :
    (s.setX i v).getX j = if j = i ∧ i ≠ 0#5 then v else s.getX j := by
  by_cases hi : i = 0#5
  · subst hi; simp [State.setX_zero]
  · rw [State.setX_of_ne hi]
    by_cases hj : j = 0#5
    · subst hj
      have h0 : ¬0#5 = i := fun h => hi h.symm
      simp [h0]
    · rw [State.getX_of_ne hj, State.getX_of_ne hj]
      by_cases hji : j = i
      · subst hji; simp [hi]
      · have hn : i.toNat ≠ j.toNat := fun h => hji (BitVec.eq_of_toNat_eq h.symm)
        simp [hji, Vector.getElem_set_ne _ _ hn]

@[simp] theorem State.getX_setX_self {i : RegIdx} (h : i ≠ 0#5) (s : State) (v : Word) : (s.setX i v).getX i = v := by
  simp [State.getX_setX, h]

@[simp] theorem State.getX_setX_ne {i j : RegIdx} (h : j ≠ i) (s : State) (v : Word) : (s.setX i v).getX j = s.getX j := by
  simp [State.getX_setX, h]

/-- Which registers are written after a write. -/
theorem State.hasWritten_setX (s : State) (i j : RegIdx) (v : Word) :
    (s.setX i v).hasWritten j = (decide (j = i ∧ i ≠ 0#5) || s.hasWritten j) := by
  by_cases hi : i = 0#5
  · subst hi; simp [State.setX_zero]
  · rw [State.setX_of_ne hi]
    by_cases hji : j = i
    · subst hji; simp [State.hasWritten, hi]
    · have hn : i.toNat ≠ j.toNat := fun h => hji (BitVec.eq_of_toNat_eq h.symm)
      simp [State.hasWritten, hji, Vector.getElem_set_ne _ _ hn]

/-- R31's invariant: no write reaches the stored register 0. -/
@[simp] theorem State.setX_x_zero (s : State) (i : RegIdx) (v : Word) : (s.setX i v).x[0] = s.x[0] := by
  by_cases hi : i = 0#5
  · subst hi; rfl
  · have hn : i.toNat ≠ 0 := fun h => hi (BitVec.eq_of_toNat_eq h)
    simp [State.setX_of_ne hi, Vector.getElem_set_ne _ _ hn]

/-- A mark, once set, stays set; register 0's is never touched. -/
@[simp] theorem State.setX_written_zero (s : State) (i : RegIdx) (v : Word) : (s.setX i v).written[0] = s.written[0] := by
  by_cases hi : i = 0#5
  · subst hi; rfl
  · have hn : i.toNat ≠ 0 := fun h => hi (BitVec.eq_of_toNat_eq h)
    simp [State.setX_of_ne hi, Vector.getElem_set_ne _ _ hn]

/-- The data address of an access does not depend on the PC. -/
@[simp] theorem State.jump_effAddr (s : State) (t : Word) (b : RegIdx) (o : Word) : (s.jump t).effAddr b o = s.effAddr b o := rfl

end Sys2Proof.Machine
end

