-- ==== Sys2Proof/Laws/Ops.lean ====
section
/-! SUPPORT. What each shared operation can do, once: the meanings' shapes, the fetch, the reset edge, and the one inversion lemma of `exec`. -/

namespace Sys2Proof.Machine

/-- A register write and the advance, with the PC written as the old one's successor. -/
theorem writeAndAdvance_eq (rd : RegIdx) (v : Word) (s : State) : writeAndAdvance rd v s = .next ((s.setX rd v).jump (s.pc + 4#32)) := by
  simp [writeAndAdvance, State.advance]

/-- The access is not stopped for its alignment: `MISALIGNED_DATA` is bytewise, or the address is a multiple of the size (R71). -/
theorem State.misaligned_eq_false {s : State} {a : Word} {size : AccessSize} :
    s.misaligned a size = false ↔ s.cfg.misalignedData = .bytewise ∨ a.toNat % size.bytes = 0 := by
  unfold State.misaligned
  cases h : s.cfg.misalignedData <;> simp

/-- A byte access is never misaligned (R220, R280). -/
@[simp] theorem State.misaligned_byte (s : State) (a : Word) : s.misaligned a .byte = false := by
  simp [State.misaligned, AccessSize.bytes, Nat.mod_one]

theorem AccessSize.bytes_le (size : AccessSize) : size.bytes ≤ 4 := by cases size <;> decide

/-- A load answers a next state exactly when its address is accepted and every byte has a value; then it writes rd and advances. -/
theorem loadTo_eq_next {size : AccessSize} {how : Widening} {rd rs1 : RegIdx} {imm : BitVec 12} {s t : State} :
    loadTo size how rd rs1 imm s = .next t ↔
      s.misaligned (s.effAddr rs1 (immI imm)) size = false ∧
        ∃ v, s.dmem.readLE (s.effAddr rs1 (immI imm)) size.bytes = some v ∧ t = (s.setX rd (widen size how v)).advance := by
  unfold loadTo writeAndAdvance
  cases s.misaligned (s.effAddr rs1 (immI imm)) size
  · cases h : s.dmem.readLE (s.effAddr rs1 (immI imm)) size.bytes <;> simp [eq_comm]
  · simp

/-- A store answers a next state exactly when its address is accepted; then it writes its bytes and advances. -/
theorem storeFrom_eq_next {size : AccessSize} {rs1 rs2 : RegIdx} {imm : BitVec 12} {s t : State} :
    storeFrom size rs1 rs2 imm s = .next t ↔
      s.misaligned (s.effAddr rs1 (immS imm)) size = false ∧
        t = (s.withDmem (s.dmem.writeLE (s.effAddr rs1 (immS imm)) (s.getX rs2) size.bytes)).advance := by
  unfold storeFrom
  cases s.misaligned (s.effAddr rs1 (immS imm)) size <;> simp [eq_comm]

/-- The fetch answers a word exactly when the PC is a multiple of 4 and the image gives the word's bytes (R62). -/
theorem State.fetch_eq_some {s : State} {w : Word} : s.fetch = some w ↔ s.pc.toNat % 4 = 0 ∧ s.imem.readLE s.pc 4 = some w := by
  unfold State.fetch; split <;> simp [*]

theorem runCycle_of_fetch {s : State} {w : Word} (h : s.fetch = some w) : runCycle s = exec (decode w) s := by
  unfold runCycle; rw [h]

theorem step_of_rst {s : State} (h : s.rst = true) : step s = resetEdge s (runCycle s) := by simp [step, h]

theorem step_of_not_rst {s : State} (h : s.rst = false) : step s = runCycle s := by simp [step, h]

/-- A reset edge that answers a next state puts the boot address in the PC, of the state itself or of the cycle's result. -/
theorem resetEdge_eq_next {s t : State} {cycle : Result} (h : resetEdge s cycle = .next t) :
    (s.cfg.resetStore = .suppressed ∧ t = s.jump s.cfg.bootAddr) ∨
      (s.cfg.resetStore = .performed ∧ ∃ u, cycle = .next u ∧ t = u.jump s.cfg.bootAddr) := by
  unfold resetEdge at h
  cases hc : s.cfg.resetStore <;> cases cycle <;> simp_all

/-- `t` is `s` after one commit (R12, R33, R180): at most one store of at most 4 bytes (`n` = 0 is none), at most one register write (rd = 0
is none), and a new PC, together. -/
def Commits (s t : State) : Prop :=
  ∃ (rd : RegIdx) (v a w : Word) (n : Nat) (pc : Word), n ≤ 4 ∧ t = ((s.withDmem (s.dmem.writeLE a w n)).setX rd v).jump pc

theorem Commits.ofSetX (s : State) (rd : RegIdx) (v pc : Word) : Commits s ((s.setX rd v).jump pc) :=
  ⟨rd, v, 0#32, 0#32, 0, pc, by omega, rfl⟩

theorem Commits.ofStore (s : State) (a w : Word) {n : Nat} (hn : n ≤ 4) (pc : Word) :
    Commits s ((s.withDmem (s.dmem.writeLE a w n)).jump pc) :=
  ⟨0#5, 0#32, a, w, n, pc, hn, rfl⟩

theorem Commits.ofJump (s : State) (pc : Word) : Commits s (s.jump pc) := Commits.ofSetX s 0#5 0#32 pc

theorem writeAndAdvance_commits {rd : RegIdx} {v : Word} {s t : State} (h : writeAndAdvance rd v s = .next t) : Commits s t := by
  obtain rfl : _ = t := by simpa [writeAndAdvance] using h
  exact Commits.ofSetX s rd v _

theorem linkAndJump_commits {rd : RegIdx} {v : Word} {s t : State} (h : linkAndJump rd v s = .next t) : Commits s t := by
  obtain rfl : _ = t := by simpa [linkAndJump] using h
  exact Commits.ofSetX s rd _ v

theorem loadTo_commits {size : AccessSize} {how : Widening} {rd rs1 : RegIdx} {imm : BitVec 12} {s t : State}
    (h : loadTo size how rd rs1 imm s = .next t) : Commits s t := by
  obtain ⟨_, v, _, rfl⟩ := loadTo_eq_next.mp h
  exact Commits.ofSetX s rd _ _

theorem storeFrom_commits {size : AccessSize} {rs1 rs2 : RegIdx} {imm : BitVec 12} {s t : State}
    (h : storeFrom size rs1 rs2 imm s = .next t) : Commits s t := by
  obtain ⟨_, rfl⟩ := storeFrom_eq_next.mp h
  exact Commits.ofStore s _ _ size.bytes_le _

theorem branchIf_commits {cond : BranchFlags → Bool} {rs1 rs2 : RegIdx} {imm : BitVec 13} {s t : State}
    (h : branchIf cond rs1 rs2 imm s = .next t) : Commits s t := by
  obtain rfl : _ = t := by simpa [branchIf] using h
  split
  · exact Commits.ofJump s _
  · exact Commits.ofJump s _

theorem safeDefault_commits {s t : State} (h : safeDefault s = .next t) : Commits s t := by
  obtain rfl : _ = t := by simpa [safeDefault] using h
  exact Commits.ofJump s _

theorem opFunct701_commits {s t : State} (h : opFunct701 s = .next t) : Commits s t := by
  unfold opFunct701 at h
  cases hc : s.cfg.opFunct701 <;> simp only [hc] at h
  · exact safeDefault_commits h
  · cases h

/-- What any instruction can do, once: every invariant of the machine and every frame of a run follows from this. -/
theorem exec_commits {i : Instr} {s t : State} (h : exec i s = .next t) : Commits s t := by
  cases i <;> simp only [exec, aluReg, aluImm, execLui, execAuipc, execJal, execJalr, execBeq, execBne, execBlt, execBge, execBltu, execBgeu, execLb, execLh, execLw,
    execLbu, execLhu, execSb, execSh, execSw, execAddi, execSlti, execSltiu, execXori, execOri, execAndi, execSlli, execSrli,
    execSrai, execAdd, execSub, execSll, execSlt, execSltu, execXor, execSrl, execSra, execOr, execAnd, execFence,
    execFenceI, execEcall, execEbreak, execCsrrw, execCsrrs, execCsrrc, execCsrrwi, execCsrrsi, execCsrrci, execMret,
    execSret, execWfi, execSfenceVma, execMul, execMulh, execMulhsu, execMulhu, execDiv, execDivu, execRem, execRemu,
    execLoadWordF3_110, execLoadSize11, execJalrF3Nonzero, execBranchF3_01x, execStoreSize11, execStoreByteF3_100,
    execStoreHalfF3_101, execStoreWordF3_110, execSlliAnyFunct7, execSraiAnyFunct7, execOpAddAnyFunct7, execOpSubAnyFunct7,
    execOpSrlAnyFunct7, execOpSraAnyFunct7, execOpSllAnyFunct7, execOpSltAnyFunct7, execOpSltuAnyFunct7, execOpXorAnyFunct7,
    execOpOrAnyFunct7, execOpAndAnyFunct7, execSystemOther, execSrxiBadFunct7, execUnrecognised] at h <;>
    first
      | with_reducible exact writeAndAdvance_commits h
      | with_reducible exact linkAndJump_commits h
      | with_reducible exact loadTo_commits h
      | with_reducible exact storeFrom_commits h
      | with_reducible exact branchIf_commits h
      | with_reducible exact safeDefault_commits h
      | with_reducible exact opFunct701_commits h
      | exact absurd h (by simp [sizeReserved])

end Sys2Proof.Machine
end

