-- ==== Sys2Proof/Laws/PerInstr.lean ====
section
/-! SUPPORT. Per instruction: the word of a well-formed instruction matches the mask and bits of its own row of the opcode table (R129). -/

namespace Sys2Proof.Laws

/-- The family's statement: some row of the table has the instruction's mnemonic, and the instruction's word matches it. -/
def MatchesRow.Statement (i : Instr) : Prop :=
  WellFormed i → ∃ r ∈ opcodeTable, r.mnemonic = i.mnemonic ∧ r.matches (encode i) = true

/-- A word equal to a row's bits under its mask matches the row. -/
theorem matches_of_masked_eq {r : TableRow} {w : Word} (h : w &&& r.mask = r.bits) : r.matches w = true := by
  simp [TableRow.matches, h]

theorem MatchesRow.lui (rd : RegIdx) (imm20 : BitVec 20) : MatchesRow.Statement (.lui rd imm20) := fun _ =>
  ⟨opcodeTable[0], List.getElem_mem _, rfl, matches_of_masked_eq (by
    show encode (.lui rd imm20) &&& 0x0000007F#32 = 0x00000037#32
    simp only [encode, packU, and_mask_opcode, fieldOpcode_packFields]; decide)⟩

theorem MatchesRow.auipc (rd : RegIdx) (imm20 : BitVec 20) : MatchesRow.Statement (.auipc rd imm20) := fun _ =>
  ⟨opcodeTable[1], List.getElem_mem _, rfl, matches_of_masked_eq (by
    show encode (.auipc rd imm20) &&& 0x0000007F#32 = 0x00000017#32
    simp only [encode, packU, and_mask_opcode, fieldOpcode_packFields]; decide)⟩

theorem MatchesRow.jal (rd : RegIdx) (imm : BitVec 21) : MatchesRow.Statement (.jal rd imm) := fun _ =>
  ⟨opcodeTable[2], List.getElem_mem _, rfl, matches_of_masked_eq (by
    show encode (.jal rd imm) &&& 0x0000007F#32 = 0x0000006F#32
    simp only [encode, packJ, and_mask_opcode, fieldOpcode_packFields]; decide)⟩

theorem MatchesRow.jalr (rd : RegIdx) (rs1 : RegIdx) (imm : BitVec 12) : MatchesRow.Statement (.jalr rd rs1 imm) := fun _ =>
  ⟨opcodeTable[3], List.getElem_mem _, rfl, matches_of_masked_eq (by
    show encode (.jalr rd rs1 imm) &&& 0x0000707F#32 = 0x00000067#32
    simp only [encode, packI, and_mask_funct3, fieldOpcode_packFields, fieldFunct3_packFields]; decide)⟩

theorem MatchesRow.beq (rs1 : RegIdx) (rs2 : RegIdx) (imm : BitVec 13) : MatchesRow.Statement (.beq rs1 rs2 imm) := fun _ =>
  ⟨opcodeTable[4], List.getElem_mem _, rfl, matches_of_masked_eq (by
    show encode (.beq rs1 rs2 imm) &&& 0x0000707F#32 = 0x00000063#32
    simp only [encode, packB, and_mask_funct3, fieldOpcode_packFields, fieldFunct3_packFields]; decide)⟩

theorem MatchesRow.bne (rs1 : RegIdx) (rs2 : RegIdx) (imm : BitVec 13) : MatchesRow.Statement (.bne rs1 rs2 imm) := fun _ =>
  ⟨opcodeTable[5], List.getElem_mem _, rfl, matches_of_masked_eq (by
    show encode (.bne rs1 rs2 imm) &&& 0x0000707F#32 = 0x00001063#32
    simp only [encode, packB, and_mask_funct3, fieldOpcode_packFields, fieldFunct3_packFields]; decide)⟩

theorem MatchesRow.blt (rs1 : RegIdx) (rs2 : RegIdx) (imm : BitVec 13) : MatchesRow.Statement (.blt rs1 rs2 imm) := fun _ =>
  ⟨opcodeTable[6], List.getElem_mem _, rfl, matches_of_masked_eq (by
    show encode (.blt rs1 rs2 imm) &&& 0x0000707F#32 = 0x00004063#32
    simp only [encode, packB, and_mask_funct3, fieldOpcode_packFields, fieldFunct3_packFields]; decide)⟩

theorem MatchesRow.bge (rs1 : RegIdx) (rs2 : RegIdx) (imm : BitVec 13) : MatchesRow.Statement (.bge rs1 rs2 imm) := fun _ =>
  ⟨opcodeTable[7], List.getElem_mem _, rfl, matches_of_masked_eq (by
    show encode (.bge rs1 rs2 imm) &&& 0x0000707F#32 = 0x00005063#32
    simp only [encode, packB, and_mask_funct3, fieldOpcode_packFields, fieldFunct3_packFields]; decide)⟩

theorem MatchesRow.bltu (rs1 : RegIdx) (rs2 : RegIdx) (imm : BitVec 13) : MatchesRow.Statement (.bltu rs1 rs2 imm) := fun _ =>
  ⟨opcodeTable[8], List.getElem_mem _, rfl, matches_of_masked_eq (by
    show encode (.bltu rs1 rs2 imm) &&& 0x0000707F#32 = 0x00006063#32
    simp only [encode, packB, and_mask_funct3, fieldOpcode_packFields, fieldFunct3_packFields]; decide)⟩

theorem MatchesRow.bgeu (rs1 : RegIdx) (rs2 : RegIdx) (imm : BitVec 13) : MatchesRow.Statement (.bgeu rs1 rs2 imm) := fun _ =>
  ⟨opcodeTable[9], List.getElem_mem _, rfl, matches_of_masked_eq (by
    show encode (.bgeu rs1 rs2 imm) &&& 0x0000707F#32 = 0x00007063#32
    simp only [encode, packB, and_mask_funct3, fieldOpcode_packFields, fieldFunct3_packFields]; decide)⟩

theorem MatchesRow.lb (rd : RegIdx) (rs1 : RegIdx) (imm : BitVec 12) : MatchesRow.Statement (.lb rd rs1 imm) := fun _ =>
  ⟨opcodeTable[10], List.getElem_mem _, rfl, matches_of_masked_eq (by
    show encode (.lb rd rs1 imm) &&& 0x0000707F#32 = 0x00000003#32
    simp only [encode, packI, and_mask_funct3, fieldOpcode_packFields, fieldFunct3_packFields]; decide)⟩

theorem MatchesRow.lh (rd : RegIdx) (rs1 : RegIdx) (imm : BitVec 12) : MatchesRow.Statement (.lh rd rs1 imm) := fun _ =>
  ⟨opcodeTable[11], List.getElem_mem _, rfl, matches_of_masked_eq (by
    show encode (.lh rd rs1 imm) &&& 0x0000707F#32 = 0x00001003#32
    simp only [encode, packI, and_mask_funct3, fieldOpcode_packFields, fieldFunct3_packFields]; decide)⟩

theorem MatchesRow.lw (rd : RegIdx) (rs1 : RegIdx) (imm : BitVec 12) : MatchesRow.Statement (.lw rd rs1 imm) := fun _ =>
  ⟨opcodeTable[12], List.getElem_mem _, rfl, matches_of_masked_eq (by
    show encode (.lw rd rs1 imm) &&& 0x0000707F#32 = 0x00002003#32
    simp only [encode, packI, and_mask_funct3, fieldOpcode_packFields, fieldFunct3_packFields]; decide)⟩

theorem MatchesRow.lbu (rd : RegIdx) (rs1 : RegIdx) (imm : BitVec 12) : MatchesRow.Statement (.lbu rd rs1 imm) := fun _ =>
  ⟨opcodeTable[13], List.getElem_mem _, rfl, matches_of_masked_eq (by
    show encode (.lbu rd rs1 imm) &&& 0x0000707F#32 = 0x00004003#32
    simp only [encode, packI, and_mask_funct3, fieldOpcode_packFields, fieldFunct3_packFields]; decide)⟩

theorem MatchesRow.lhu (rd : RegIdx) (rs1 : RegIdx) (imm : BitVec 12) : MatchesRow.Statement (.lhu rd rs1 imm) := fun _ =>
  ⟨opcodeTable[14], List.getElem_mem _, rfl, matches_of_masked_eq (by
    show encode (.lhu rd rs1 imm) &&& 0x0000707F#32 = 0x00005003#32
    simp only [encode, packI, and_mask_funct3, fieldOpcode_packFields, fieldFunct3_packFields]; decide)⟩

theorem MatchesRow.sb (rs1 : RegIdx) (rs2 : RegIdx) (imm : BitVec 12) : MatchesRow.Statement (.sb rs1 rs2 imm) := fun _ =>
  ⟨opcodeTable[15], List.getElem_mem _, rfl, matches_of_masked_eq (by
    show encode (.sb rs1 rs2 imm) &&& 0x0000707F#32 = 0x00000023#32
    simp only [encode, packS, and_mask_funct3, fieldOpcode_packFields, fieldFunct3_packFields]; decide)⟩

theorem MatchesRow.sh (rs1 : RegIdx) (rs2 : RegIdx) (imm : BitVec 12) : MatchesRow.Statement (.sh rs1 rs2 imm) := fun _ =>
  ⟨opcodeTable[16], List.getElem_mem _, rfl, matches_of_masked_eq (by
    show encode (.sh rs1 rs2 imm) &&& 0x0000707F#32 = 0x00001023#32
    simp only [encode, packS, and_mask_funct3, fieldOpcode_packFields, fieldFunct3_packFields]; decide)⟩

theorem MatchesRow.sw (rs1 : RegIdx) (rs2 : RegIdx) (imm : BitVec 12) : MatchesRow.Statement (.sw rs1 rs2 imm) := fun _ =>
  ⟨opcodeTable[17], List.getElem_mem _, rfl, matches_of_masked_eq (by
    show encode (.sw rs1 rs2 imm) &&& 0x0000707F#32 = 0x00002023#32
    simp only [encode, packS, and_mask_funct3, fieldOpcode_packFields, fieldFunct3_packFields]; decide)⟩

theorem MatchesRow.addi (rd : RegIdx) (rs1 : RegIdx) (imm : BitVec 12) : MatchesRow.Statement (.addi rd rs1 imm) := fun _ =>
  ⟨opcodeTable[18], List.getElem_mem _, rfl, matches_of_masked_eq (by
    show encode (.addi rd rs1 imm) &&& 0x0000707F#32 = 0x00000013#32
    simp only [encode, packI, and_mask_funct3, fieldOpcode_packFields, fieldFunct3_packFields]; decide)⟩

theorem MatchesRow.slti (rd : RegIdx) (rs1 : RegIdx) (imm : BitVec 12) : MatchesRow.Statement (.slti rd rs1 imm) := fun _ =>
  ⟨opcodeTable[19], List.getElem_mem _, rfl, matches_of_masked_eq (by
    show encode (.slti rd rs1 imm) &&& 0x0000707F#32 = 0x00002013#32
    simp only [encode, packI, and_mask_funct3, fieldOpcode_packFields, fieldFunct3_packFields]; decide)⟩

theorem MatchesRow.sltiu (rd : RegIdx) (rs1 : RegIdx) (imm : BitVec 12) : MatchesRow.Statement (.sltiu rd rs1 imm) := fun _ =>
  ⟨opcodeTable[20], List.getElem_mem _, rfl, matches_of_masked_eq (by
    show encode (.sltiu rd rs1 imm) &&& 0x0000707F#32 = 0x00003013#32
    simp only [encode, packI, and_mask_funct3, fieldOpcode_packFields, fieldFunct3_packFields]; decide)⟩

theorem MatchesRow.xori (rd : RegIdx) (rs1 : RegIdx) (imm : BitVec 12) : MatchesRow.Statement (.xori rd rs1 imm) := fun _ =>
  ⟨opcodeTable[21], List.getElem_mem _, rfl, matches_of_masked_eq (by
    show encode (.xori rd rs1 imm) &&& 0x0000707F#32 = 0x00004013#32
    simp only [encode, packI, and_mask_funct3, fieldOpcode_packFields, fieldFunct3_packFields]; decide)⟩

theorem MatchesRow.ori (rd : RegIdx) (rs1 : RegIdx) (imm : BitVec 12) : MatchesRow.Statement (.ori rd rs1 imm) := fun _ =>
  ⟨opcodeTable[22], List.getElem_mem _, rfl, matches_of_masked_eq (by
    show encode (.ori rd rs1 imm) &&& 0x0000707F#32 = 0x00006013#32
    simp only [encode, packI, and_mask_funct3, fieldOpcode_packFields, fieldFunct3_packFields]; decide)⟩

theorem MatchesRow.andi (rd : RegIdx) (rs1 : RegIdx) (imm : BitVec 12) : MatchesRow.Statement (.andi rd rs1 imm) := fun _ =>
  ⟨opcodeTable[23], List.getElem_mem _, rfl, matches_of_masked_eq (by
    show encode (.andi rd rs1 imm) &&& 0x0000707F#32 = 0x00007013#32
    simp only [encode, packI, and_mask_funct3, fieldOpcode_packFields, fieldFunct3_packFields]; decide)⟩

theorem MatchesRow.slli (rd : RegIdx) (rs1 : RegIdx) (shamt : BitVec 5) : MatchesRow.Statement (.slli rd rs1 shamt) := fun _ =>
  ⟨opcodeTable[24], List.getElem_mem _, rfl, matches_of_masked_eq (by
    show encode (.slli rd rs1 shamt) &&& 0xFE00707F#32 = 0x00001013#32
    simp only [encode, and_mask_funct7, fieldOpcode_packFields, fieldFunct3_packFields, fieldFunct7_packFields]; decide)⟩

theorem MatchesRow.srli (rd : RegIdx) (rs1 : RegIdx) (shamt : BitVec 5) : MatchesRow.Statement (.srli rd rs1 shamt) := fun _ =>
  ⟨opcodeTable[25], List.getElem_mem _, rfl, matches_of_masked_eq (by
    show encode (.srli rd rs1 shamt) &&& 0xFE00707F#32 = 0x00005013#32
    simp only [encode, and_mask_funct7, fieldOpcode_packFields, fieldFunct3_packFields, fieldFunct7_packFields]; decide)⟩

theorem MatchesRow.srai (rd : RegIdx) (rs1 : RegIdx) (shamt : BitVec 5) : MatchesRow.Statement (.srai rd rs1 shamt) := fun _ =>
  ⟨opcodeTable[26], List.getElem_mem _, rfl, matches_of_masked_eq (by
    show encode (.srai rd rs1 shamt) &&& 0xFE00707F#32 = 0x40005013#32
    simp only [encode, and_mask_funct7, fieldOpcode_packFields, fieldFunct3_packFields, fieldFunct7_packFields]; decide)⟩

theorem MatchesRow.add (rd : RegIdx) (rs1 : RegIdx) (rs2 : RegIdx) : MatchesRow.Statement (.add rd rs1 rs2) := fun _ =>
  ⟨opcodeTable[27], List.getElem_mem _, rfl, matches_of_masked_eq (by
    show encode (.add rd rs1 rs2) &&& 0xFE00707F#32 = 0x00000033#32
    simp only [encode, and_mask_funct7, fieldOpcode_packFields, fieldFunct3_packFields, fieldFunct7_packFields]; decide)⟩

theorem MatchesRow.sub (rd : RegIdx) (rs1 : RegIdx) (rs2 : RegIdx) : MatchesRow.Statement (.sub rd rs1 rs2) := fun _ =>
  ⟨opcodeTable[28], List.getElem_mem _, rfl, matches_of_masked_eq (by
    show encode (.sub rd rs1 rs2) &&& 0xFE00707F#32 = 0x40000033#32
    simp only [encode, and_mask_funct7, fieldOpcode_packFields, fieldFunct3_packFields, fieldFunct7_packFields]; decide)⟩

theorem MatchesRow.sll (rd : RegIdx) (rs1 : RegIdx) (rs2 : RegIdx) : MatchesRow.Statement (.sll rd rs1 rs2) := fun _ =>
  ⟨opcodeTable[29], List.getElem_mem _, rfl, matches_of_masked_eq (by
    show encode (.sll rd rs1 rs2) &&& 0xFE00707F#32 = 0x00001033#32
    simp only [encode, and_mask_funct7, fieldOpcode_packFields, fieldFunct3_packFields, fieldFunct7_packFields]; decide)⟩

theorem MatchesRow.slt (rd : RegIdx) (rs1 : RegIdx) (rs2 : RegIdx) : MatchesRow.Statement (.slt rd rs1 rs2) := fun _ =>
  ⟨opcodeTable[30], List.getElem_mem _, rfl, matches_of_masked_eq (by
    show encode (.slt rd rs1 rs2) &&& 0xFE00707F#32 = 0x00002033#32
    simp only [encode, and_mask_funct7, fieldOpcode_packFields, fieldFunct3_packFields, fieldFunct7_packFields]; decide)⟩

theorem MatchesRow.sltu (rd : RegIdx) (rs1 : RegIdx) (rs2 : RegIdx) : MatchesRow.Statement (.sltu rd rs1 rs2) := fun _ =>
  ⟨opcodeTable[31], List.getElem_mem _, rfl, matches_of_masked_eq (by
    show encode (.sltu rd rs1 rs2) &&& 0xFE00707F#32 = 0x00003033#32
    simp only [encode, and_mask_funct7, fieldOpcode_packFields, fieldFunct3_packFields, fieldFunct7_packFields]; decide)⟩

theorem MatchesRow.xor (rd : RegIdx) (rs1 : RegIdx) (rs2 : RegIdx) : MatchesRow.Statement (.xor rd rs1 rs2) := fun _ =>
  ⟨opcodeTable[32], List.getElem_mem _, rfl, matches_of_masked_eq (by
    show encode (.xor rd rs1 rs2) &&& 0xFE00707F#32 = 0x00004033#32
    simp only [encode, and_mask_funct7, fieldOpcode_packFields, fieldFunct3_packFields, fieldFunct7_packFields]; decide)⟩

theorem MatchesRow.srl (rd : RegIdx) (rs1 : RegIdx) (rs2 : RegIdx) : MatchesRow.Statement (.srl rd rs1 rs2) := fun _ =>
  ⟨opcodeTable[33], List.getElem_mem _, rfl, matches_of_masked_eq (by
    show encode (.srl rd rs1 rs2) &&& 0xFE00707F#32 = 0x00005033#32
    simp only [encode, and_mask_funct7, fieldOpcode_packFields, fieldFunct3_packFields, fieldFunct7_packFields]; decide)⟩

theorem MatchesRow.sra (rd : RegIdx) (rs1 : RegIdx) (rs2 : RegIdx) : MatchesRow.Statement (.sra rd rs1 rs2) := fun _ =>
  ⟨opcodeTable[34], List.getElem_mem _, rfl, matches_of_masked_eq (by
    show encode (.sra rd rs1 rs2) &&& 0xFE00707F#32 = 0x40005033#32
    simp only [encode, and_mask_funct7, fieldOpcode_packFields, fieldFunct3_packFields, fieldFunct7_packFields]; decide)⟩

theorem MatchesRow.or (rd : RegIdx) (rs1 : RegIdx) (rs2 : RegIdx) : MatchesRow.Statement (.or rd rs1 rs2) := fun _ =>
  ⟨opcodeTable[35], List.getElem_mem _, rfl, matches_of_masked_eq (by
    show encode (.or rd rs1 rs2) &&& 0xFE00707F#32 = 0x00006033#32
    simp only [encode, and_mask_funct7, fieldOpcode_packFields, fieldFunct3_packFields, fieldFunct7_packFields]; decide)⟩

theorem MatchesRow.and (rd : RegIdx) (rs1 : RegIdx) (rs2 : RegIdx) : MatchesRow.Statement (.and rd rs1 rs2) := fun _ =>
  ⟨opcodeTable[36], List.getElem_mem _, rfl, matches_of_masked_eq (by
    show encode (.and rd rs1 rs2) &&& 0xFE00707F#32 = 0x00007033#32
    simp only [encode, and_mask_funct7, fieldOpcode_packFields, fieldFunct3_packFields, fieldFunct7_packFields]; decide)⟩

theorem MatchesRow.fence (fm : BitVec 4) (pred : BitVec 4) (succ : BitVec 4) (rs1 : RegIdx) (rd : RegIdx) : MatchesRow.Statement (.fence fm pred succ rs1 rd) := fun _ =>
  ⟨opcodeTable[37], List.getElem_mem _, rfl, matches_of_masked_eq (by
    show encode (.fence fm pred succ rs1 rd) &&& 0x0000707F#32 = 0x0000000F#32
    simp only [encode, packI, and_mask_funct3, fieldOpcode_packFields, fieldFunct3_packFields]; decide)⟩

theorem MatchesRow.fenceI (imm : BitVec 12) (rs1 : RegIdx) (rd : RegIdx) : MatchesRow.Statement (.fenceI imm rs1 rd) := fun _ =>
  ⟨opcodeTable[38], List.getElem_mem _, rfl, matches_of_masked_eq (by
    show encode (.fenceI imm rs1 rd) &&& 0x0000707F#32 = 0x0000100F#32
    simp only [encode, packI, and_mask_funct3, fieldOpcode_packFields, fieldFunct3_packFields]; decide)⟩

theorem MatchesRow.ecall : MatchesRow.Statement (.ecall) := fun _ =>
  ⟨opcodeTable[39], List.getElem_mem _, rfl, matches_of_masked_eq (by
    show encode (.ecall) &&& 0xFFFFFFFF#32 = 0x00000073#32
    decide)⟩

theorem MatchesRow.ebreak : MatchesRow.Statement (.ebreak) := fun _ =>
  ⟨opcodeTable[40], List.getElem_mem _, rfl, matches_of_masked_eq (by
    show encode (.ebreak) &&& 0xFFFFFFFF#32 = 0x00100073#32
    decide)⟩

theorem MatchesRow.csrrw (rd : RegIdx) (rs1 : RegIdx) (csr : BitVec 12) : MatchesRow.Statement (.csrrw rd rs1 csr) := fun _ =>
  ⟨opcodeTable[41], List.getElem_mem _, rfl, matches_of_masked_eq (by
    show encode (.csrrw rd rs1 csr) &&& 0x0000707F#32 = 0x00001073#32
    simp only [encode, packI, and_mask_funct3, fieldOpcode_packFields, fieldFunct3_packFields]; decide)⟩

theorem MatchesRow.csrrs (rd : RegIdx) (rs1 : RegIdx) (csr : BitVec 12) : MatchesRow.Statement (.csrrs rd rs1 csr) := fun _ =>
  ⟨opcodeTable[42], List.getElem_mem _, rfl, matches_of_masked_eq (by
    show encode (.csrrs rd rs1 csr) &&& 0x0000707F#32 = 0x00002073#32
    simp only [encode, packI, and_mask_funct3, fieldOpcode_packFields, fieldFunct3_packFields]; decide)⟩

theorem MatchesRow.csrrc (rd : RegIdx) (rs1 : RegIdx) (csr : BitVec 12) : MatchesRow.Statement (.csrrc rd rs1 csr) := fun _ =>
  ⟨opcodeTable[43], List.getElem_mem _, rfl, matches_of_masked_eq (by
    show encode (.csrrc rd rs1 csr) &&& 0x0000707F#32 = 0x00003073#32
    simp only [encode, packI, and_mask_funct3, fieldOpcode_packFields, fieldFunct3_packFields]; decide)⟩

theorem MatchesRow.csrrwi (rd : RegIdx) (uimm : BitVec 5) (csr : BitVec 12) : MatchesRow.Statement (.csrrwi rd uimm csr) := fun _ =>
  ⟨opcodeTable[44], List.getElem_mem _, rfl, matches_of_masked_eq (by
    show encode (.csrrwi rd uimm csr) &&& 0x0000707F#32 = 0x00005073#32
    simp only [encode, packI, and_mask_funct3, fieldOpcode_packFields, fieldFunct3_packFields]; decide)⟩

theorem MatchesRow.csrrsi (rd : RegIdx) (uimm : BitVec 5) (csr : BitVec 12) : MatchesRow.Statement (.csrrsi rd uimm csr) := fun _ =>
  ⟨opcodeTable[45], List.getElem_mem _, rfl, matches_of_masked_eq (by
    show encode (.csrrsi rd uimm csr) &&& 0x0000707F#32 = 0x00006073#32
    simp only [encode, packI, and_mask_funct3, fieldOpcode_packFields, fieldFunct3_packFields]; decide)⟩

theorem MatchesRow.csrrci (rd : RegIdx) (uimm : BitVec 5) (csr : BitVec 12) : MatchesRow.Statement (.csrrci rd uimm csr) := fun _ =>
  ⟨opcodeTable[46], List.getElem_mem _, rfl, matches_of_masked_eq (by
    show encode (.csrrci rd uimm csr) &&& 0x0000707F#32 = 0x00007073#32
    simp only [encode, packI, and_mask_funct3, fieldOpcode_packFields, fieldFunct3_packFields]; decide)⟩

theorem MatchesRow.mret : MatchesRow.Statement (.mret) := fun _ =>
  ⟨opcodeTable[47], List.getElem_mem _, rfl, matches_of_masked_eq (by
    show encode (.mret) &&& 0xFFFFFFFF#32 = 0x30200073#32
    decide)⟩

theorem MatchesRow.sret : MatchesRow.Statement (.sret) := fun _ =>
  ⟨opcodeTable[48], List.getElem_mem _, rfl, matches_of_masked_eq (by
    show encode (.sret) &&& 0xFFFFFFFF#32 = 0x10200073#32
    decide)⟩

theorem MatchesRow.wfi : MatchesRow.Statement (.wfi) := fun _ =>
  ⟨opcodeTable[49], List.getElem_mem _, rfl, matches_of_masked_eq (by
    show encode (.wfi) &&& 0xFFFFFFFF#32 = 0x10500073#32
    decide)⟩

theorem MatchesRow.sfenceVma (rs1 : RegIdx) (rs2 : RegIdx) : MatchesRow.Statement (.sfenceVma rs1 rs2) := fun _ =>
  ⟨opcodeTable[50], List.getElem_mem _, rfl, matches_of_masked_eq (by
    show encode (.sfenceVma rs1 rs2) &&& 0xFE007FFF#32 = 0x12000073#32
    simp only [encode, and_mask_funct7_rd, fieldOpcode_packFields, fieldFunct3_packFields, fieldFunct7_packFields, fieldRd_packFields]; decide)⟩

theorem MatchesRow.mul (rd : RegIdx) (rs1 : RegIdx) (rs2 : RegIdx) : MatchesRow.Statement (.mul rd rs1 rs2) := fun _ =>
  ⟨opcodeTable[51], List.getElem_mem _, rfl, matches_of_masked_eq (by
    show encode (.mul rd rs1 rs2) &&& 0xFE00707F#32 = 0x02000033#32
    simp only [encode, and_mask_funct7, fieldOpcode_packFields, fieldFunct3_packFields, fieldFunct7_packFields]; decide)⟩

theorem MatchesRow.mulh (rd : RegIdx) (rs1 : RegIdx) (rs2 : RegIdx) : MatchesRow.Statement (.mulh rd rs1 rs2) := fun _ =>
  ⟨opcodeTable[52], List.getElem_mem _, rfl, matches_of_masked_eq (by
    show encode (.mulh rd rs1 rs2) &&& 0xFE00707F#32 = 0x02001033#32
    simp only [encode, and_mask_funct7, fieldOpcode_packFields, fieldFunct3_packFields, fieldFunct7_packFields]; decide)⟩

theorem MatchesRow.mulhsu (rd : RegIdx) (rs1 : RegIdx) (rs2 : RegIdx) : MatchesRow.Statement (.mulhsu rd rs1 rs2) := fun _ =>
  ⟨opcodeTable[53], List.getElem_mem _, rfl, matches_of_masked_eq (by
    show encode (.mulhsu rd rs1 rs2) &&& 0xFE00707F#32 = 0x02002033#32
    simp only [encode, and_mask_funct7, fieldOpcode_packFields, fieldFunct3_packFields, fieldFunct7_packFields]; decide)⟩

theorem MatchesRow.mulhu (rd : RegIdx) (rs1 : RegIdx) (rs2 : RegIdx) : MatchesRow.Statement (.mulhu rd rs1 rs2) := fun _ =>
  ⟨opcodeTable[54], List.getElem_mem _, rfl, matches_of_masked_eq (by
    show encode (.mulhu rd rs1 rs2) &&& 0xFE00707F#32 = 0x02003033#32
    simp only [encode, and_mask_funct7, fieldOpcode_packFields, fieldFunct3_packFields, fieldFunct7_packFields]; decide)⟩

theorem MatchesRow.div (rd : RegIdx) (rs1 : RegIdx) (rs2 : RegIdx) : MatchesRow.Statement (.div rd rs1 rs2) := fun _ =>
  ⟨opcodeTable[55], List.getElem_mem _, rfl, matches_of_masked_eq (by
    show encode (.div rd rs1 rs2) &&& 0xFE00707F#32 = 0x02004033#32
    simp only [encode, and_mask_funct7, fieldOpcode_packFields, fieldFunct3_packFields, fieldFunct7_packFields]; decide)⟩

theorem MatchesRow.divu (rd : RegIdx) (rs1 : RegIdx) (rs2 : RegIdx) : MatchesRow.Statement (.divu rd rs1 rs2) := fun _ =>
  ⟨opcodeTable[56], List.getElem_mem _, rfl, matches_of_masked_eq (by
    show encode (.divu rd rs1 rs2) &&& 0xFE00707F#32 = 0x02005033#32
    simp only [encode, and_mask_funct7, fieldOpcode_packFields, fieldFunct3_packFields, fieldFunct7_packFields]; decide)⟩

theorem MatchesRow.rem (rd : RegIdx) (rs1 : RegIdx) (rs2 : RegIdx) : MatchesRow.Statement (.rem rd rs1 rs2) := fun _ =>
  ⟨opcodeTable[57], List.getElem_mem _, rfl, matches_of_masked_eq (by
    show encode (.rem rd rs1 rs2) &&& 0xFE00707F#32 = 0x02006033#32
    simp only [encode, and_mask_funct7, fieldOpcode_packFields, fieldFunct3_packFields, fieldFunct7_packFields]; decide)⟩

theorem MatchesRow.remu (rd : RegIdx) (rs1 : RegIdx) (rs2 : RegIdx) : MatchesRow.Statement (.remu rd rs1 rs2) := fun _ =>
  ⟨opcodeTable[58], List.getElem_mem _, rfl, matches_of_masked_eq (by
    show encode (.remu rd rs1 rs2) &&& 0xFE00707F#32 = 0x02007033#32
    simp only [encode, and_mask_funct7, fieldOpcode_packFields, fieldFunct3_packFields, fieldFunct7_packFields]; decide)⟩

theorem MatchesRow.loadWordF3_110 (rd : RegIdx) (rs1 : RegIdx) (imm : BitVec 12) : MatchesRow.Statement (.loadWordF3_110 rd rs1 imm) := fun _ =>
  ⟨opcodeTable[59], List.getElem_mem _, rfl, matches_of_masked_eq (by
    show encode (.loadWordF3_110 rd rs1 imm) &&& 0x0000707F#32 = 0x00006003#32
    simp only [encode, packI, and_mask_funct3, fieldOpcode_packFields, fieldFunct3_packFields]; decide)⟩

theorem MatchesRow.loadSize11 (f3hi : BitVec 1) (rd : RegIdx) (rs1 : RegIdx) (imm : BitVec 12) : MatchesRow.Statement (.loadSize11 f3hi rd rs1 imm) := fun _ =>
  ⟨opcodeTable[60], List.getElem_mem _, rfl, matches_of_masked_eq (by
    show encode (.loadSize11 f3hi rd rs1 imm) &&& 0x0000307F#32 = 0x00003003#32
    simp only [encode, packI, and_mask_funct3_low, fieldOpcode_packFields, fieldFunct3_packFields]
    rw [append_low_and]; decide)⟩

theorem MatchesRow.jalrF3Nonzero (funct3 : BitVec 3) (rd : RegIdx) (rs1 : RegIdx) (imm : BitVec 12) : MatchesRow.Statement (.jalrF3Nonzero funct3 rd rs1 imm) := fun _ =>
  ⟨opcodeTable[61], List.getElem_mem _, rfl, matches_of_masked_eq (by
    show encode (.jalrF3Nonzero funct3 rd rs1 imm) &&& 0x0000007F#32 = 0x00000067#32
    simp only [encode, packI, and_mask_opcode, fieldOpcode_packFields]; decide)⟩

theorem MatchesRow.branchF3_01x (f3lo : BitVec 1) (rs1 : RegIdx) (rs2 : RegIdx) (imm : BitVec 13) : MatchesRow.Statement (.branchF3_01x f3lo rs1 rs2 imm) := fun _ =>
  ⟨opcodeTable[62], List.getElem_mem _, rfl, matches_of_masked_eq (by
    show encode (.branchF3_01x f3lo rs1 rs2 imm) &&& 0x0000607F#32 = 0x00002063#32
    simp only [encode, packB, and_mask_funct3_high, fieldOpcode_packFields, fieldFunct3_packFields]
    rw [append_high_and]; decide)⟩

theorem MatchesRow.storeSize11 (f3hi : BitVec 1) (rs1 : RegIdx) (rs2 : RegIdx) (imm : BitVec 12) : MatchesRow.Statement (.storeSize11 f3hi rs1 rs2 imm) := fun _ =>
  ⟨opcodeTable[63], List.getElem_mem _, rfl, matches_of_masked_eq (by
    show encode (.storeSize11 f3hi rs1 rs2 imm) &&& 0x0000307F#32 = 0x00003023#32
    simp only [encode, packS, and_mask_funct3_low, fieldOpcode_packFields, fieldFunct3_packFields]
    rw [append_low_and]; decide)⟩

theorem MatchesRow.storeByteF3_100 (rs1 : RegIdx) (rs2 : RegIdx) (imm : BitVec 12) : MatchesRow.Statement (.storeByteF3_100 rs1 rs2 imm) := fun _ =>
  ⟨opcodeTable[64], List.getElem_mem _, rfl, matches_of_masked_eq (by
    show encode (.storeByteF3_100 rs1 rs2 imm) &&& 0x0000707F#32 = 0x00004023#32
    simp only [encode, packS, and_mask_funct3, fieldOpcode_packFields, fieldFunct3_packFields]; decide)⟩

theorem MatchesRow.storeHalfF3_101 (rs1 : RegIdx) (rs2 : RegIdx) (imm : BitVec 12) : MatchesRow.Statement (.storeHalfF3_101 rs1 rs2 imm) := fun _ =>
  ⟨opcodeTable[65], List.getElem_mem _, rfl, matches_of_masked_eq (by
    show encode (.storeHalfF3_101 rs1 rs2 imm) &&& 0x0000707F#32 = 0x00005023#32
    simp only [encode, packS, and_mask_funct3, fieldOpcode_packFields, fieldFunct3_packFields]; decide)⟩

theorem MatchesRow.storeWordF3_110 (rs1 : RegIdx) (rs2 : RegIdx) (imm : BitVec 12) : MatchesRow.Statement (.storeWordF3_110 rs1 rs2 imm) := fun _ =>
  ⟨opcodeTable[66], List.getElem_mem _, rfl, matches_of_masked_eq (by
    show encode (.storeWordF3_110 rs1 rs2 imm) &&& 0x0000707F#32 = 0x00006023#32
    simp only [encode, packS, and_mask_funct3, fieldOpcode_packFields, fieldFunct3_packFields]; decide)⟩

theorem MatchesRow.slliAnyFunct7 (funct7 : BitVec 7) (rd : RegIdx) (rs1 : RegIdx) (shamt : BitVec 5) : MatchesRow.Statement (.slliAnyFunct7 funct7 rd rs1 shamt) := fun _ =>
  ⟨opcodeTable[67], List.getElem_mem _, rfl, matches_of_masked_eq (by
    show encode (.slliAnyFunct7 funct7 rd rs1 shamt) &&& 0x0000707F#32 = 0x00001013#32
    simp only [encode, and_mask_funct3, fieldOpcode_packFields, fieldFunct3_packFields]; decide)⟩

theorem MatchesRow.sraiAnyFunct7 (funct7 : BitVec 7) (rd : RegIdx) (rs1 : RegIdx) (shamt : BitVec 5) : MatchesRow.Statement (.sraiAnyFunct7 funct7 rd rs1 shamt) := fun h =>
  ⟨opcodeTable[68], List.getElem_mem _, rfl, matches_of_masked_eq (by
    show encode (.sraiAnyFunct7 funct7 rd rs1 shamt) &&& 0x4000707F#32 = 0x40005013#32
    simp only [encode, and_mask_funct7_bit5, fieldOpcode_packFields, fieldFunct3_packFields, fieldFunct7_packFields]
    rw [and_bit5_of_nonStandardSet h]; decide)⟩

theorem MatchesRow.opAddAnyFunct7 (funct7 : BitVec 7) (rd : RegIdx) (rs1 : RegIdx) (rs2 : RegIdx) : MatchesRow.Statement (.opAddAnyFunct7 funct7 rd rs1 rs2) := fun h =>
  ⟨opcodeTable[69], List.getElem_mem _, rfl, matches_of_masked_eq (by
    show encode (.opAddAnyFunct7 funct7 rd rs1 rs2) &&& 0x4000707F#32 = 0x00000033#32
    simp only [encode, and_mask_funct7_bit5, fieldOpcode_packFields, fieldFunct3_packFields, fieldFunct7_packFields]
    rw [and_bit5_of_nonStandardClear h]; decide)⟩

theorem MatchesRow.opSubAnyFunct7 (funct7 : BitVec 7) (rd : RegIdx) (rs1 : RegIdx) (rs2 : RegIdx) : MatchesRow.Statement (.opSubAnyFunct7 funct7 rd rs1 rs2) := fun h =>
  ⟨opcodeTable[70], List.getElem_mem _, rfl, matches_of_masked_eq (by
    show encode (.opSubAnyFunct7 funct7 rd rs1 rs2) &&& 0x4000707F#32 = 0x40000033#32
    simp only [encode, and_mask_funct7_bit5, fieldOpcode_packFields, fieldFunct3_packFields, fieldFunct7_packFields]
    rw [and_bit5_of_nonStandardSet h]; decide)⟩

theorem MatchesRow.opSrlAnyFunct7 (funct7 : BitVec 7) (rd : RegIdx) (rs1 : RegIdx) (rs2 : RegIdx) : MatchesRow.Statement (.opSrlAnyFunct7 funct7 rd rs1 rs2) := fun h =>
  ⟨opcodeTable[71], List.getElem_mem _, rfl, matches_of_masked_eq (by
    show encode (.opSrlAnyFunct7 funct7 rd rs1 rs2) &&& 0x4000707F#32 = 0x00005033#32
    simp only [encode, and_mask_funct7_bit5, fieldOpcode_packFields, fieldFunct3_packFields, fieldFunct7_packFields]
    rw [and_bit5_of_nonStandardClear h]; decide)⟩

theorem MatchesRow.opSraAnyFunct7 (funct7 : BitVec 7) (rd : RegIdx) (rs1 : RegIdx) (rs2 : RegIdx) : MatchesRow.Statement (.opSraAnyFunct7 funct7 rd rs1 rs2) := fun h =>
  ⟨opcodeTable[72], List.getElem_mem _, rfl, matches_of_masked_eq (by
    show encode (.opSraAnyFunct7 funct7 rd rs1 rs2) &&& 0x4000707F#32 = 0x40005033#32
    simp only [encode, and_mask_funct7_bit5, fieldOpcode_packFields, fieldFunct3_packFields, fieldFunct7_packFields]
    rw [and_bit5_of_nonStandardSet h]; decide)⟩

theorem MatchesRow.opSllAnyFunct7 (funct7 : BitVec 7) (rd : RegIdx) (rs1 : RegIdx) (rs2 : RegIdx) : MatchesRow.Statement (.opSllAnyFunct7 funct7 rd rs1 rs2) := fun _ =>
  ⟨opcodeTable[73], List.getElem_mem _, rfl, matches_of_masked_eq (by
    show encode (.opSllAnyFunct7 funct7 rd rs1 rs2) &&& 0x0000707F#32 = 0x00001033#32
    simp only [encode, and_mask_funct3, fieldOpcode_packFields, fieldFunct3_packFields]; decide)⟩

theorem MatchesRow.opSltAnyFunct7 (funct7 : BitVec 7) (rd : RegIdx) (rs1 : RegIdx) (rs2 : RegIdx) : MatchesRow.Statement (.opSltAnyFunct7 funct7 rd rs1 rs2) := fun _ =>
  ⟨opcodeTable[74], List.getElem_mem _, rfl, matches_of_masked_eq (by
    show encode (.opSltAnyFunct7 funct7 rd rs1 rs2) &&& 0x0000707F#32 = 0x00002033#32
    simp only [encode, and_mask_funct3, fieldOpcode_packFields, fieldFunct3_packFields]; decide)⟩

theorem MatchesRow.opSltuAnyFunct7 (funct7 : BitVec 7) (rd : RegIdx) (rs1 : RegIdx) (rs2 : RegIdx) : MatchesRow.Statement (.opSltuAnyFunct7 funct7 rd rs1 rs2) := fun _ =>
  ⟨opcodeTable[75], List.getElem_mem _, rfl, matches_of_masked_eq (by
    show encode (.opSltuAnyFunct7 funct7 rd rs1 rs2) &&& 0x0000707F#32 = 0x00003033#32
    simp only [encode, and_mask_funct3, fieldOpcode_packFields, fieldFunct3_packFields]; decide)⟩

theorem MatchesRow.opXorAnyFunct7 (funct7 : BitVec 7) (rd : RegIdx) (rs1 : RegIdx) (rs2 : RegIdx) : MatchesRow.Statement (.opXorAnyFunct7 funct7 rd rs1 rs2) := fun _ =>
  ⟨opcodeTable[76], List.getElem_mem _, rfl, matches_of_masked_eq (by
    show encode (.opXorAnyFunct7 funct7 rd rs1 rs2) &&& 0x0000707F#32 = 0x00004033#32
    simp only [encode, and_mask_funct3, fieldOpcode_packFields, fieldFunct3_packFields]; decide)⟩

theorem MatchesRow.opOrAnyFunct7 (funct7 : BitVec 7) (rd : RegIdx) (rs1 : RegIdx) (rs2 : RegIdx) : MatchesRow.Statement (.opOrAnyFunct7 funct7 rd rs1 rs2) := fun _ =>
  ⟨opcodeTable[77], List.getElem_mem _, rfl, matches_of_masked_eq (by
    show encode (.opOrAnyFunct7 funct7 rd rs1 rs2) &&& 0x0000707F#32 = 0x00006033#32
    simp only [encode, and_mask_funct3, fieldOpcode_packFields, fieldFunct3_packFields]; decide)⟩

theorem MatchesRow.opAndAnyFunct7 (funct7 : BitVec 7) (rd : RegIdx) (rs1 : RegIdx) (rs2 : RegIdx) : MatchesRow.Statement (.opAndAnyFunct7 funct7 rd rs1 rs2) := fun _ =>
  ⟨opcodeTable[78], List.getElem_mem _, rfl, matches_of_masked_eq (by
    show encode (.opAndAnyFunct7 funct7 rd rs1 rs2) &&& 0x0000707F#32 = 0x00007033#32
    simp only [encode, and_mask_funct3, fieldOpcode_packFields, fieldFunct3_packFields]; decide)⟩

theorem MatchesRow.systemOther (bits : BitVec 25) : MatchesRow.Statement (.systemOther bits) := fun _ =>
  ⟨opcodeTable[79], List.getElem_mem _, rfl, matches_of_masked_eq (by
    show encode (.systemOther bits) &&& 0x0000007F#32 = 0x00000073#32
    rw [and_mask_opcode, encode, fieldOpcode_appendOpcode]; decide)⟩

theorem MatchesRow.srxiBadFunct7 (funct7 : BitVec 7) (rd : RegIdx) (rs1 : RegIdx) (shamt : BitVec 5) : MatchesRow.Statement (.srxiBadFunct7 funct7 rd rs1 shamt) := fun _ =>
  ⟨opcodeTable[80], List.getElem_mem _, rfl, matches_of_masked_eq (by
    show encode (.srxiBadFunct7 funct7 rd rs1 shamt) &&& 0x0000707F#32 = 0x00005013#32
    simp only [encode, and_mask_funct3, fieldOpcode_packFields, fieldFunct3_packFields]; decide)⟩

theorem MatchesRow.unrecognised (word : Word) : MatchesRow.Statement (.unrecognised word) := fun _ =>
  ⟨opcodeTable[81], List.getElem_mem _, rfl, matches_of_masked_eq (by
    show encode (.unrecognised word) &&& 0x00000000#32 = 0x00000000#32
    exact BitVec.and_zero)⟩

end Sys2Proof.Laws
end

