-- ==== Sys2Proof/Tests/Slice0.lean ====
section
/-! SUPPORT. Tests. Every expected value is the spec's own: the words and end states of 95_test_vectors.md (L1, L2) and the worked examples of
the rules named. -/

namespace Sys2Proof.Tests

open Sys2Proof.Machine

/-! ### Well-formedness: for each check, a term it refuses -/

theorem test_wf_odd_branch_offset : (Instr.beq 1 2 7).wf = false := by decide
theorem test_wf_odd_never_taken_offset : (Instr.branchF3_01x 0 1 2 9).wf = false := by decide
theorem test_wf_odd_jal_offset : (Instr.jal 1 3).wf = false := by decide
theorem test_wf_jalr_funct3_zero : (Instr.jalrF3Nonzero 0 1 2 4).wf = false := by decide
theorem test_wf_slli_standard_funct7 : (Instr.slliAnyFunct7 0 1 2 3).wf = false := by decide
theorem test_wf_srai_standard_funct7 : (Instr.sraiAnyFunct7 0b0100000 1 2 3).wf = false := by decide
theorem test_wf_srai_bit5_clear : (Instr.sraiAnyFunct7 0b0000010 1 2 3).wf = false := by decide
theorem test_wf_add_mul_funct7 : (Instr.opAddAnyFunct7 0b0000001 1 2 3).wf = false := by decide
theorem test_wf_add_bit5_set : (Instr.opAddAnyFunct7 0b0100001 1 2 3).wf = false := by decide
theorem test_wf_sub_standard_funct7 : (Instr.opSubAnyFunct7 0b0100000 1 2 3).wf = false := by decide
theorem test_wf_and_standard_funct7 : (Instr.opAndAnyFunct7 0b0000000 1 2 3).wf = false := by decide
theorem test_wf_srx_bit5_set : (Instr.srxiBadFunct7 0b0100000 1 2 3).wf = false := by decide
theorem test_wf_srx_zero : (Instr.srxiBadFunct7 0 1 2 3).wf = false := by decide
/-- 0x0002000 is EBREAK's inst[31:7], 0x0240000 SFENCE.VMA's, 0x20 a CSRRW's. -/
theorem test_wf_system_named :
    (Instr.systemOther 0x0002000).wf = false ∧ (Instr.systemOther 0x0240000).wf = false ∧ (Instr.systemOther 0x20).wf = false := by decide
/-- ADD's word and FENCE's word have rows of their own. -/
theorem test_wf_unrecognised_known :
    (Instr.unrecognised 0x00000033).wf = false ∧ (Instr.unrecognised 0x0FF0000F).wf = false := by decide
theorem test_wf_unrecognised_zero_word : (Instr.unrecognised 0).wf = true := by decide

/-! ### Decoding: words written field by field from the formats of R92 -/

/-- R92, R97, R98, R111 to R114. -/
theorem test_decode_upper_jumps :
    decode 0b11111111111111111111_00101_0110111 = .lui 5 0xFFFFF ∧
    decode 0b00000000000000000001_00101_0010111 = .auipc 5 1 ∧
    decode 0b1_1111111110_1_11111111_00001_1101111 = .jal 1 (-4) ∧
    decode 0b000000000011_00110_000_00001_1100111 = .jalr 1 6 3 ∧
    decode 0b000000000000_00101_001_00001_1100111 = .jalrF3Nonzero 1 1 5 0 := by
  decide

/-- R92, R96, R117. -/
theorem test_decode_branches :
    decode 0b1_000000_00000_00000_000_0000_0_1100011 = .beq 0 0 (-4096) ∧
    decode 0b0_000000_00111_00110_001_0100_0_1100011 = .bne 6 7 8 ∧
    decode 0b0_000000_00111_00110_100_0100_0_1100011 = .blt 6 7 8 ∧
    decode 0b0_000000_00111_00110_101_0100_0_1100011 = .bge 6 7 8 ∧
    decode 0b0_000000_00111_00110_110_0100_0_1100011 = .bltu 6 7 8 ∧
    decode 0b0_000000_00111_00110_111_0100_0_1100011 = .bgeu 6 7 8 ∧
    decode 0b0_000000_00111_00110_010_0100_0_1100011 = .branchF3_01x 0 6 7 8 ∧
    decode 0b0_000000_00111_00110_011_0100_1_1100011 = .branchF3_01x 1 6 7 2056 := by
  decide

/-- R92, R93, R115. -/
theorem test_decode_loads :
    decode 0b000000000000_00110_000_00111_0000011 = .lb 7 6 0 ∧
    decode 0b000000000010_00110_001_00111_0000011 = .lh 7 6 2 ∧
    decode 0b111000000000_00110_010_00111_0000011 = .lw 7 6 (-512) ∧
    decode 0b000000000001_00110_100_00111_0000011 = .lbu 7 6 1 ∧
    decode 0b000000000110_00100_101_00011_0000011 = .lhu 3 4 6 ∧
    decode 0b000000000000_00110_110_00111_0000011 = .loadWordF3_110 7 6 0 ∧
    decode 0b000000000000_00110_011_00111_0000011 = .loadSize11 0 7 6 0 ∧
    decode 0b000000000000_00110_111_00111_0000011 = .loadSize11 1 7 6 0 := by
  decide

/-- R92, R95, R118. -/
theorem test_decode_stores :
    decode 0b0000000_00111_00110_000_00001_0100011 = .sb 6 7 1 ∧
    decode 0b0000000_00111_00110_001_00010_0100011 = .sh 6 7 2 ∧
    decode 0b1111111_00010_00011_010_11100_0100011 = .sw 3 2 (-4) ∧
    decode 0b0000000_00111_00110_100_00000_0100011 = .storeByteF3_100 6 7 0 ∧
    decode 0b0000000_00111_00110_101_00000_0100011 = .storeHalfF3_101 6 7 0 ∧
    decode 0b0000000_00111_00110_110_00000_0100011 = .storeWordF3_110 6 7 0 ∧
    decode 0b0000000_00111_00110_011_00000_0100011 = .storeSize11 0 6 7 0 ∧
    decode 0b0000000_00111_00110_111_00000_0100011 = .storeSize11 1 6 7 0 := by
  decide

/-- R92 to R94, R116. -/
theorem test_decode_op_imm :
    decode 0b000000000001_00000_000_00001_0010011 = .addi 1 0 1 ∧
    decode 0b111111111111_00110_010_00111_0010011 = .slti 7 6 (-1) ∧
    decode 0b111111111111_00110_011_00111_0010011 = .sltiu 7 6 (-1) ∧
    decode 0b111111111111_00110_100_00111_0010011 = .xori 7 6 (-1) ∧
    decode 0b011111111111_00110_110_00111_0010011 = .ori 7 6 2047 ∧
    decode 0b111111110000_00110_111_00111_0010011 = .andi 7 6 (-16) ∧
    decode 0b0000000_11111_00110_001_00111_0010011 = .slli 7 6 31 ∧
    decode 0b0000000_00100_00110_101_00111_0010011 = .srli 7 6 4 ∧
    decode 0b0100000_00100_00110_101_00111_0010011 = .srai 7 6 4 ∧
    decode 0b0100000_00001_00110_001_00111_0010011 = .slliAnyFunct7 0b0100000 7 6 1 ∧
    decode 0b0100001_00100_00110_101_00111_0010011 = .sraiAnyFunct7 0b0100001 7 6 4 ∧
    decode 0b0000001_00100_00110_101_00111_0010011 = .srxiBadFunct7 1 7 6 4 := by
  decide

/-- R92, R119. -/
theorem test_decode_op :
    decode 0b0000000_00111_00110_000_01000_0110011 = .add 8 6 7 ∧
    decode 0b0000000_00111_00110_001_01000_0110011 = .sll 8 6 7 ∧
    decode 0b0000000_00111_00110_010_01000_0110011 = .slt 8 6 7 ∧
    decode 0b0000000_00111_00110_011_01000_0110011 = .sltu 8 6 7 ∧
    decode 0b0000000_00111_00110_100_01000_0110011 = .xor 8 6 7 ∧
    decode 0b0000000_00111_00110_101_01000_0110011 = .srl 8 6 7 ∧
    decode 0b0000000_00111_00110_110_01000_0110011 = .or 8 6 7 ∧
    decode 0b0000000_00111_00110_111_01000_0110011 = .and 8 6 7 ∧
    decode 0b0100000_00111_00110_000_01000_0110011 = .sub 8 6 7 ∧
    decode 0b0100000_00111_00110_101_01000_0110011 = .sra 8 6 7 := by
  decide

/-- R92, R119 (funct7 0000001). -/
theorem test_decode_op_m_extension :
    decode 0b0000001_00111_00110_000_01000_0110011 = .mul 8 6 7 ∧
    decode 0b0000001_00111_00110_001_01000_0110011 = .mulh 8 6 7 ∧
    decode 0b0000001_00111_00110_010_01000_0110011 = .mulhsu 8 6 7 ∧
    decode 0b0000001_00111_00110_011_01000_0110011 = .mulhu 8 6 7 ∧
    decode 0b0000001_00111_00110_100_01000_0110011 = .div 8 6 7 ∧
    decode 0b0000001_00111_00110_101_01000_0110011 = .divu 8 6 7 ∧
    decode 0b0000001_00111_00110_110_01000_0110011 = .rem 8 6 7 ∧
    decode 0b0000001_00111_00110_111_01000_0110011 = .remu 8 6 7 := by
  decide

/-- R119, R310. -/
theorem test_decode_op_non_standard :
    decode 0b0000010_00111_00110_000_01000_0110011 = .opAddAnyFunct7 0b0000010 8 6 7 ∧
    decode 0b0000010_00111_00110_001_01000_0110011 = .opSllAnyFunct7 0b0000010 8 6 7 ∧
    decode 0b0000010_00111_00110_010_01000_0110011 = .opSltAnyFunct7 0b0000010 8 6 7 ∧
    decode 0b0000010_00111_00110_011_01000_0110011 = .opSltuAnyFunct7 0b0000010 8 6 7 ∧
    decode 0b0000010_00111_00110_100_01000_0110011 = .opXorAnyFunct7 0b0000010 8 6 7 ∧
    decode 0b0000010_00111_00110_101_01000_0110011 = .opSrlAnyFunct7 0b0000010 8 6 7 ∧
    decode 0b0000010_00111_00110_110_01000_0110011 = .opOrAnyFunct7 0b0000010 8 6 7 ∧
    decode 0b0000010_00111_00110_111_01000_0110011 = .opAndAnyFunct7 0b0000010 8 6 7 ∧
    decode 0b0100001_00111_00110_000_01000_0110011 = .opSubAnyFunct7 0b0100001 8 6 7 ∧
    decode 0b0100001_00111_00110_101_01000_0110011 = .opSraAnyFunct7 0b0100001 8 6 7 ∧
    decode 0b0100000_00111_00110_111_01000_0110011 = .opAndAnyFunct7 0b0100000 8 6 7 := by
  decide

/-- R330 to R344. -/
theorem test_decode_misc_mem_system :
    decode 0b0000_1111_1111_00000_000_00000_0001111 = .fence 0 15 15 0 0 ∧
    decode 0b000000000000_00000_001_00000_0001111 = .fenceI 0 0 0 ∧
    decode 0b000000000000_00000_000_00000_1110011 = .ecall ∧
    decode 0b000000000001_00000_000_00000_1110011 = .ebreak ∧
    decode 0b001101000000_00110_001_00101_1110011 = .csrrw 5 6 0x340 ∧
    decode 0b110000000000_00000_010_00101_1110011 = .csrrs 5 0 0xC00 ∧
    decode 0b001100000000_00110_011_00101_1110011 = .csrrc 5 6 0x300 ∧
    decode 0b001101000000_00101_101_00101_1110011 = .csrrwi 5 5 0x340 ∧
    decode 0b001100000000_01000_110_00101_1110011 = .csrrsi 5 8 0x300 ∧
    decode 0b001100000000_01000_111_00101_1110011 = .csrrci 5 8 0x300 ∧
    decode 0b001100000010_00000_000_00000_1110011 = .mret ∧
    decode 0b000100000010_00000_000_00000_1110011 = .sret ∧
    decode 0b000100000101_00000_000_00000_1110011 = .wfi ∧
    decode 0b0001001_00000_00000_000_00000_1110011 = .sfenceVma 0 0 ∧
    decode 0b000000000000_00000_100_00000_1110011 = .systemOther 0x80 := by
  decide

/-- R123, R354. -/
theorem test_decode_unrecognised :
    decode 0x00000000 = .unrecognised 0x00000000 ∧
    decode 0xFFFFFFFF = .unrecognised 0xFFFFFFFF ∧
    decode 0x100322AF = .unrecognised 0x100322AF ∧
    decode 0x0000000B = .unrecognised 0x0000000B ∧
    decode 0b000000000000_00000_010_00000_0001111 = .unrecognised 0x0000200F := by
  decide

/-- S1 in both directions of `decodeTableWord`'s numbering, and bytes too few for a word (R90). -/
theorem test_decode_table_word : decodeTableWord 32 0x00100093 = some (.addi 1 0 1) := by decide
theorem test_decode_too_few_bytes : decodeBytes [0x93, 0x00, 0x10] = .error .fewerThanFourBytes := by rfl

/-! ### One step from a small state -/

/-- A state at pc 0x100 with `word` there, the registers `xs` written, and the data bytes `mem`. -/
def at100 (word : Word) (xs : List (RegIdx × Word)) (mem : Memory := []) (cfg : Config := Config.specDefault) : State :=
  xs.foldl (fun s r => s.setX r.1 r.2)
    { State.launch cfg ((Memory.writeLE [] 0x100#32 word 4)) mem with pc := 0x100#32 }

/-- The pc and a register after a step. -/
def pcAndReg (i : RegIdx) : Result → Option (Word × Word)
  | .next t => some (t.pc, t.getX i)
  | _ => none

/-- The pc and the data memory after a step. -/
def pcAndMem : Result → Option (Word × Memory)
  | .next t => some (t.pc, t.dmem)
  | _ => none

/-- The fault of a step. -/
def faultOf : Result → Option Fault
  | .fault f => some f
  | _ => none

/-- 43_loads.md: the data bytes of the worked examples. -/
def bytes200 : Memory := [(0x200, 0x80), (0x201, 0xFF), (0x202, 0x34), (0x203, 0x12)]

/-- R200. -/
theorem test_step_lui : pcAndReg 5 (step (at100 0xFFFFF2B7 [])) = some (0x104, 0xFFFFF000) := by decide
/-- L2.5. -/
theorem test_step_auipc : pcAndReg 5 (step (at100 0xFFFFF297 [])) = some (0x104, 0xFFFFF100) := by decide
/-- R210. -/
theorem test_step_jal : pcAndReg 1 (step (at100 0xFFDFF0EF [])) = some (0xFC, 0x104) := by decide
/-- R210. -/
theorem test_step_jal_forward : pcAndReg 1 (step (at100 0x001000EF [])) = some (0x900, 0x104) := by decide
/-- R211. -/
theorem test_step_jalr_clears_bit_0 : pcAndReg 1 (step (at100 0x003300E7 [(6, 0x1000)])) = some (0x1002, 0x104) := by decide
/-- R211. -/
theorem test_step_jalr_same_register : pcAndReg 6 (step (at100 0x00430367 [(6, 0x1000)])) = some (0x1004, 0x104) := by decide
/-- L2.5. -/
theorem test_step_jalr_funct3_001 : pcAndReg 1 (step (at100 0x000290E7 [(5, 0x201)])) = some (0x200, 0x104) := by decide
/-- R260. -/
theorem test_step_beq : pcAndReg 0 (step (at100 0x00730463 [(6, 0xFFFFFFFF), (7, 1)])) = some (0x104, 0) := by decide
/-- R261. -/
theorem test_step_bne : pcAndReg 0 (step (at100 0x00731463 [(6, 0xFFFFFFFF), (7, 1)])) = some (0x108, 0) := by decide
/-- R262. -/
theorem test_step_blt : pcAndReg 0 (step (at100 0x00734463 [(6, 0xFFFFFFFF), (7, 1)])) = some (0x108, 0) := by decide
/-- R263. -/
theorem test_step_bge : pcAndReg 0 (step (at100 0x00735463 [(6, 0xFFFFFFFF), (7, 1)])) = some (0x104, 0) := by decide
/-- R264. -/
theorem test_step_bltu : pcAndReg 0 (step (at100 0x00736463 [(6, 0xFFFFFFFF), (7, 1)])) = some (0x104, 0) := by decide
/-- R265. -/
theorem test_step_bgeu : pcAndReg 0 (step (at100 0x00737463 [(6, 0xFFFFFFFF), (7, 1)])) = some (0x108, 0) := by decide
/-- L2.8. -/
theorem test_step_beq_backward : pcAndReg 0 (step (at100 0xF06300E3 [(6, 0xFFFFFFFF), (7, 1)])) = some (0x0, 0) := by decide
/-- L2.8. -/
theorem test_step_bge_equal : pcAndReg 0 (step (at100 0x0073D463 [(6, 0xFFFFFFFF), (7, 1)])) = some (0x108, 0) := by decide
/-- R266. -/
theorem test_step_branch_funct3_010 : pcAndReg 0 (step (at100 0x00732463 [(6, 0xFFFFFFFF), (7, 1)])) = some (0x104, 0) := by decide
/-- L2.8. -/
theorem test_step_branch_funct3_011 : pcAndReg 0 (step (at100 0x00733463 [(6, 0xFFFFFFFF), (7, 1)])) = some (0x104, 0) := by decide
/-- R220. -/
theorem test_step_lb : pcAndReg 7 (step (at100 0x00030383 [(6, 0x200)] bytes200)) = some (0x104, 0xFFFFFF80) := by decide
/-- R221, L2.6. -/
theorem test_step_lh :
    pcAndReg 7 (step (at100 0x00031383 [(6, 0x200)] bytes200)) = some (0x104, 0xFFFFFF80) ∧
    pcAndReg 7 (step (at100 0x00231383 [(6, 0x200)] bytes200)) = some (0x104, 0x00001234) := by
  decide
/-- R222, L2.6: rd = rs1 as well. -/
theorem test_step_lw :
    pcAndReg 7 (step (at100 0x00032383 [(6, 0x200)] bytes200)) = some (0x104, 0x1234FF80) ∧
    pcAndReg 6 (step (at100 0x00032303 [(6, 0x200)] bytes200)) = some (0x104, 0x1234FF80) := by
  decide
/-- R223. -/
theorem test_step_lbu : pcAndReg 7 (step (at100 0x00034383 [(6, 0x200)] bytes200)) = some (0x104, 0x80) := by decide
/-- R224. -/
theorem test_step_lhu : pcAndReg 7 (step (at100 0x00035383 [(6, 0x200)] bytes200)) = some (0x104, 0xFF80) := by decide
/-- R226. -/
theorem test_step_load_funct3_110 : pcAndReg 7 (step (at100 0x00036383 [(6, 0x200)] bytes200)) = some (0x104, 0x1234FF80) := by decide
/-- R225. -/
theorem test_step_load_size_11 : faultOf (step (at100 0x00033383 [(6, 0x200)] bytes200)) = some (.memSizeReserved 0x100) := by decide
/-- L2.6, L2.12: the size code is checked before alignment. -/
theorem test_step_load_funct3_111_misaligned : faultOf (step (at100 0x00037383 [(6, 0x201)] bytes200)) = some (.memSizeReserved 0x100) := by decide
/-- L2.6, under each value of `MISALIGNED_DATA`. -/
theorem test_step_lh_misaligned :
    faultOf (step (at100 0x00131383 [(6, 0x200)] bytes200)) = some (.misalignedData 0x201) ∧
    pcAndReg 7 (step (at100 0x00131383 [(6, 0x200)] bytes200 (cfg := { Config.specDefault with misalignedData := .bytewise }))) = some (0x104, 0x34FF) := by
  decide
/-- L2.6. -/
theorem test_step_lb_uninitialised : faultOf (step (at100 0x00430383 [(6, 0x200)] bytes200)) = some (.uninitialisedMemory 0x204) := by decide
/-- L2.12: alignment is checked before contents. -/
theorem test_step_lw_misaligned_first : faultOf (step (at100 0x00132383 [(6, 0x200)])) = some (.misalignedData 0x201) := by decide
/-- R280. -/
theorem test_step_sb : pcAndMem (step (at100 0x007300A3 [(6, 0x200), (7, 0xDEADBEEF)])) = some (0x104, [(0x201, 0xEF)]) := by decide
/-- R281. -/
theorem test_step_sh : pcAndMem (step (at100 0x00731123 [(6, 0x200), (7, 0xDEADBEEF)])) = some (0x104, [(0x202, 0xEF), (0x203, 0xBE)]) := by decide
/-- R282, R67: the other bytes stay. -/
theorem test_step_sw :
    pcAndMem (step (at100 0x00732023 [(6, 0x200), (7, 0xDEADBEEF)])) = some (0x104, [(0x200, 0xEF), (0x201, 0xBE), (0x202, 0xAD), (0x203, 0xDE)]) ∧
    pcAndMem (step (at100 0xFE732E23 [(6, 0x200), (7, 0xDEADBEEF)] [(0x1F0, 0x55), (0x1FE, 0)])) = some (0x104, [(0x1F0, 0x55), (0x1FC, 0xEF), (0x1FD, 0xBE), (0x1FE, 0xAD), (0x1FF, 0xDE)]) := by
  decide
/-- R284. -/
theorem test_step_store_funct3_100 : pcAndMem (step (at100 0x00734023 [(6, 0x200), (7, 0xDEADBEEF)])) = some (0x104, [(0x200, 0xEF)]) := by decide
/-- R284. -/
theorem test_step_store_funct3_101 : pcAndMem (step (at100 0x00735023 [(6, 0x200), (7, 0xDEADBEEF)])) = some (0x104, [(0x200, 0xEF), (0x201, 0xBE)]) := by decide
/-- R284. -/
theorem test_step_store_funct3_110 : pcAndMem (step (at100 0x00736023 [(6, 0x200), (7, 0xDEADBEEF)])) = some (0x104, [(0x200, 0xEF), (0x201, 0xBE), (0x202, 0xAD), (0x203, 0xDE)]) := by decide
/-- L2.9. -/
theorem test_step_sw_bytewise : pcAndMem (step (at100 0x00732123 [(6, 0x200), (7, 0xDEADBEEF)] (cfg := { Config.specDefault with misalignedData := .bytewise }))) = some (0x104, [(0x202, 0xEF), (0x203, 0xBE), (0x204, 0xAD), (0x205, 0xDE)]) := by decide
/-- R283. -/
theorem test_step_store_size_11 : faultOf (step (at100 0x00733023 [(6, 0x200), (7, 0xDEADBEEF)])) = some (.memSizeReserved 0x100) := by decide
/-- L2.9. -/
theorem test_step_sh_misaligned : faultOf (step (at100 0x007310A3 [(6, 0x200), (7, 0xDEADBEEF)])) = some (.misalignedData 0x201) := by decide
/-- R240, L2.7. -/
theorem test_step_addi :
    pcAndReg 7 (step (at100 0xFFF30393 [(6, 0)])) = some (0x104, 0xFFFFFFFF) ∧
    pcAndReg 7 (step (at100 0x00130393 [(6, 0x7FFFFFFF)])) = some (0x104, 0x80000000) := by
  decide
/-- R241. -/
theorem test_step_slti : pcAndReg 7 (step (at100 0xFFF32393 [(6, 0xFFFFFFFE)])) = some (0x104, 1) := by decide
/-- R242. -/
theorem test_step_sltiu : pcAndReg 7 (step (at100 0xFFF33393 [(6, 5)])) = some (0x104, 1) := by decide
/-- R243. -/
theorem test_step_xori : pcAndReg 7 (step (at100 0xFFF34393 [(6, 0x0F0F0F0F)])) = some (0x104, 0xF0F0F0F0) := by decide
/-- R244. -/
theorem test_step_ori : pcAndReg 7 (step (at100 0x7FF36393 [(6, 0x80000000)])) = some (0x104, 0x800007FF) := by decide
/-- R245. -/
theorem test_step_andi : pcAndReg 7 (step (at100 0xFF037393 [(6, 0x1234567F)])) = some (0x104, 0x12345670) := by decide
/-- R246. -/
theorem test_step_slli : pcAndReg 7 (step (at100 0x01F31393 [(6, 3)])) = some (0x104, 0x80000000) := by decide
/-- R247. -/
theorem test_step_srli : pcAndReg 7 (step (at100 0x00435393 [(6, 0x80000000)])) = some (0x104, 0x08000000) := by decide
/-- R248. -/
theorem test_step_srai : pcAndReg 7 (step (at100 0x40435393 [(6, 0x80000000)])) = some (0x104, 0xF8000000) := by decide
/-- R249. -/
theorem test_step_slli_funct7 : pcAndReg 7 (step (at100 0x40131393 [(6, 3)])) = some (0x104, 6) := by decide
/-- R250. -/
theorem test_step_srai_funct7 : pcAndReg 7 (step (at100 0x42435393 [(6, 0x80000000)])) = some (0x104, 0xF8000000) := by decide
/-- L2.7. -/
theorem test_step_addi_x0_discards : pcAndReg 0 (step (at100 0x00530013 [(6, 0xA)])) = some (0x104, 0) := by decide
/-- R300. -/
theorem test_step_add : pcAndReg 8 (step (at100 0x00730433 [(6, 0x80000001), (7, 0x21)])) = some (0x104, 0x80000022) := by decide
/-- R301. -/
theorem test_step_sub : pcAndReg 8 (step (at100 0x40730433 [(6, 0x80000001), (7, 0x21)])) = some (0x104, 0x7FFFFFE0) := by decide
/-- R302. -/
theorem test_step_sll : pcAndReg 8 (step (at100 0x00731433 [(6, 0x80000001), (7, 0x21)])) = some (0x104, 2) := by decide
/-- R303. -/
theorem test_step_slt : pcAndReg 8 (step (at100 0x00732433 [(6, 0x80000001), (7, 0x21)])) = some (0x104, 1) := by decide
/-- R304. -/
theorem test_step_sltu : pcAndReg 8 (step (at100 0x00733433 [(6, 0x80000001), (7, 0x21)])) = some (0x104, 0) := by decide
/-- R305. -/
theorem test_step_xor : pcAndReg 8 (step (at100 0x00734433 [(6, 0x80000001), (7, 0x21)])) = some (0x104, 0x80000020) := by decide
/-- R306. -/
theorem test_step_srl : pcAndReg 8 (step (at100 0x00735433 [(6, 0x80000001), (7, 0x21)])) = some (0x104, 0x40000000) := by decide
/-- R307. -/
theorem test_step_sra : pcAndReg 8 (step (at100 0x40735433 [(6, 0x80000001), (7, 0x21)])) = some (0x104, 0xC0000000) := by decide
/-- R308. -/
theorem test_step_or : pcAndReg 8 (step (at100 0x00736433 [(6, 0x80000001), (7, 0x21)])) = some (0x104, 0x80000021) := by decide
/-- R309. -/
theorem test_step_and : pcAndReg 8 (step (at100 0x00737433 [(6, 0x80000001), (7, 0x21)])) = some (0x104, 1) := by decide
/-- R310. -/
theorem test_step_and_funct7 : pcAndReg 8 (step (at100 0x40737433 [(6, 0x80000001), (7, 0x21)])) = some (0x104, 1) := by decide
/-- R310. -/
theorem test_step_add_funct7 : pcAndReg 8 (step (at100 0x04730433 [(6, 0x80000001), (7, 0x21)])) = some (0x104, 0x80000022) := by decide
/-- L2.10. -/
theorem test_step_sub_funct7 : pcAndReg 8 (step (at100 0x42730433 [(6, 0x80000001), (7, 0x21)])) = some (0x104, 0x7FFFFFE0) := by decide
/-- L2.10. -/
theorem test_step_sub_same_register : pcAndReg 6 (step (at100 0x40630333 [(6, 0x80000001), (7, 0x21)])) = some (0x104, 0) := by decide
/-- R330, L2.11. -/
theorem test_step_fence : pcAndReg 5 (step (at100 0x0FF0000F [(5, 0xAA)])) = some (0x104, 0xAA) := by decide
/-- R331, L2.11. -/
theorem test_step_fence_i : pcAndReg 5 (step (at100 0x0000100F [(5, 0xAA)])) = some (0x104, 0xAA) := by decide
/-- R332, L2.11. -/
theorem test_step_ecall : pcAndReg 5 (step (at100 0x00000073 [(5, 0xAA)])) = some (0x104, 0xAA) := by decide
/-- R333, L2.11. -/
theorem test_step_ebreak : pcAndReg 5 (step (at100 0x00100073 [(5, 0xAA)])) = some (0x104, 0xAA) := by decide
/-- R334, L2.11. -/
theorem test_step_csrrw : pcAndReg 5 (step (at100 0x340312F3 [(5, 0xAA)])) = some (0x104, 0xAA) := by decide
/-- R335, L2.11. -/
theorem test_step_csrrs : pcAndReg 5 (step (at100 0xC00022F3 [(5, 0xAA)])) = some (0x104, 0xAA) := by decide
/-- R336, L2.11. -/
theorem test_step_csrrc : pcAndReg 5 (step (at100 0x300332F3 [(5, 0xAA)])) = some (0x104, 0xAA) := by decide
/-- R337, L2.11. -/
theorem test_step_csrrwi : pcAndReg 5 (step (at100 0x3402D2F3 [(5, 0xAA)])) = some (0x104, 0xAA) := by decide
/-- R338, L2.11. -/
theorem test_step_csrrsi : pcAndReg 5 (step (at100 0x300462F3 [(5, 0xAA)])) = some (0x104, 0xAA) := by decide
/-- R339, L2.11. -/
theorem test_step_csrrci : pcAndReg 5 (step (at100 0x300472F3 [(5, 0xAA)])) = some (0x104, 0xAA) := by decide
/-- R340, L2.11. -/
theorem test_step_mret : pcAndReg 5 (step (at100 0x30200073 [(5, 0xAA)])) = some (0x104, 0xAA) := by decide
/-- R341, L2.11. -/
theorem test_step_sret : pcAndReg 5 (step (at100 0x10200073 [(5, 0xAA)])) = some (0x104, 0xAA) := by decide
/-- R342, L2.11. -/
theorem test_step_wfi : pcAndReg 5 (step (at100 0x10500073 [(5, 0xAA)])) = some (0x104, 0xAA) := by decide
/-- R343, L2.11. -/
theorem test_step_sfence_vma : pcAndReg 5 (step (at100 0x12000073 [(5, 0xAA)])) = some (0x104, 0xAA) := by decide
/-- R344, L2.11. -/
theorem test_step_system_other : pcAndReg 5 (step (at100 0x00004073 [(5, 0xAA)])) = some (0x104, 0xAA) := by decide
/-- R354, L2.11. -/
theorem test_step_zero_word : pcAndReg 5 (step (at100 0x00000000 [(5, 0xAA)])) = some (0x104, 0xAA) := by decide
/-- R354, L2.11. -/
theorem test_step_lr_w : pcAndReg 5 (step (at100 0x100322AF [(5, 0xAA)])) = some (0x104, 0xAA) := by decide
/-- R353. -/
theorem test_step_srxi_bad_funct7 : pcAndReg 7 (step (at100 0x02435393 [(6, 0x80000000), (7, 5)])) = some (0x104, 5) := by decide
/-- R345. -/
theorem test_step_mul : pcAndReg 8 (step (at100 0x02730433 [(6, 7), (7, 3)])) = some (0x104, 0) := by decide
/-- R346. -/
theorem test_step_mulh : pcAndReg 8 (step (at100 0x02731433 [(6, 7), (7, 3)])) = some (0x104, 0) := by decide
/-- R347. -/
theorem test_step_mulhsu : pcAndReg 8 (step (at100 0x02732433 [(6, 7), (7, 3)])) = some (0x104, 0) := by decide
/-- R348. -/
theorem test_step_mulhu : pcAndReg 8 (step (at100 0x02733433 [(6, 7), (7, 3)])) = some (0x104, 0) := by decide
/-- R349. -/
theorem test_step_div : pcAndReg 8 (step (at100 0x02734433 [(6, 7), (7, 3)])) = some (0x104, 0) := by decide
/-- R350. -/
theorem test_step_divu : pcAndReg 8 (step (at100 0x02735433 [(6, 7), (7, 3)])) = some (0x104, 0) := by decide
/-- R351. -/
theorem test_step_rem : pcAndReg 8 (step (at100 0x02736433 [(6, 7), (7, 3)])) = some (0x104, 0) := by decide
/-- R352. -/
theorem test_step_remu : pcAndReg 8 (step (at100 0x02737433 [(6, 7), (7, 3)])) = some (0x104, 0) := by decide
/-- R90, R410: the first step after reset runs a word loaded at the boot address; with nothing loaded it stops (R62). -/
theorem test_reset_runs_loaded_word :
    pcAndReg 1 (step (State.reset.withFetchWord 32 0x00500093)) = some (0x4, 5) ∧ faultOf (step State.reset) = some (.fetchUndefined 0) := by
  decide

/-! ### Witnesses: for every statement with hypotheses, a state and operands that meet them all -/

section Witnesses
open Sys2Proof.Claims

/-- An outcome's next state, the state given where there is none. -/
def nextOr (s : State) : Result → State
  | .next t => t
  | _ => s

/-- Every parameter at the value that is not the default, the boot address at the top word. -/
def otherConfig : Config :=
  { bootAddr := 0xFFFFFFFC, misalignedData := .bytewise, resetStore := .performed, opFunct701 := .refuse }

/-- R46: x6 and x7 written, data bytes at both ends of the address space, `word` at pc 0x100. -/
def atEnds (word : Word) (cfg : Config := Config.specDefault) : State :=
  at100 word [(6, 0xFFFFFFFE), (7, 0xDEADBEEF)] [(0, 0x33), (1, 0x44), (0xFFFFFFFC, 0x00), (0xFFFFFFFD, 0x7F), (0xFFFFFFFE, 0x11), (0xFFFFFFFF, 0x82)] cfg

theorem witness_DecodeOfEncodeIsTheInstruction :
    WellFormed (.jal 31 (-1048576)) ∧ WellFormed (.beq 31 0 4094) ∧ WellFormed (.sraiAnyFunct7 0b1111111 31 31 31) ∧
      WellFormed (.systemOther 0x1FFFF9F) ∧ WellFormed (.unrecognised 0xFFFFFFFF) := by decide

theorem witness_ImmediatesAreTheirBits :
    ((decodeRecord 0xFFF280E7).opClass = .jalr ∧ (decodeRecord 0x80030383).opClass = .load ∧
      ((decodeRecord 0x80037393).opClass = .alu ∧ (decodeRecord 0x80037393).aluSrc = true ∧ fieldFunct3 0x80037393 ≠ 0b001#3 ∧
        fieldFunct3 0x80037393 ≠ 0b101#3)) ∧
    (decodeRecord 0xFE21AE23).opClass = .store ∧ (decodeRecord 0x80000063).opClass = .branch ∧
    ((decodeRecord 0xFFFFF2B7).opClass = .lui ∧ (decodeRecord 0x80000197).opClass = .auipc) ∧ (decodeRecord 0x800000EF).opClass = .jal ∧
    ((decodeRecord 0xFFF31393).opClass = .alu ∧ (decodeRecord 0xFFF31393).aluSrc = true ∧ fieldFunct3 0xFFF31393 = 0b001#3) ∧
    ((decodeRecord 0xFFF35393).opClass = .alu ∧ (decodeRecord 0xFFF35393).aluSrc = true ∧ fieldFunct3 0xFFF35393 = 0b101#3) := by decide

/-- The zero word, and a MUL word in a state under each value of `OP_FUNCT7_01`. -/
theorem witness_SafeDefaultIsDecDefault :
    decDefault 0x00000000 = true ∧ decDefault 0x02730433 = true ∧ (at100 0x02730433 []).cfg.opFunct701 = .noop ∧
      (at100 0x02730433 [] (cfg := otherConfig)).cfg.opFunct701 = .refuse := by decide

theorem witness_UpperImmediateResults : WellFormed (.lui 31 0xFFFFF) ∧ WellFormed (.auipc 0 0) := by decide

theorem witness_JumpResults :
    WellFormed (.jal 0 1048574) ∧ WellFormed (.jalr 31 31 (-2048)) ∧ WellFormed (.jalrF3Nonzero 1 0 0 2047) ∧
      WellFormed (.jalrF3Nonzero 7 0 0 2047) := by decide

theorem witness_BranchResults :
    WellFormed (.beq 0 31 (-4096)) ∧ WellFormed (.bne 31 0 4094) ∧ WellFormed (.blt 1 2 (-2)) ∧ WellFormed (.bge 1 2 2) ∧
      WellFormed (.bltu 1 2 0) ∧ WellFormed (.bgeu 1 2 4) ∧ WellFormed (.branchF3_01x 0 1 2 8) ∧ WellFormed (.branchF3_01x 1 1 2 8) := by decide

/-- The last word of memory, and a halfword and a word across the end of the address space under bytewise. -/
theorem witness_LoadResults :
    (0xFFFFFFFC#32 = (atEnds 0).getX 6 + (-2 : BitVec 12).signExtend 32 ∧ (atEnds 0).dmem.read (0xFFFFFFFC : Word).toNat = some 0x00 ∧
      (atEnds 0).dmem.read (0xFFFFFFFC#32 + 1#32).toNat = some 0x7F ∧ (atEnds 0).dmem.read (0xFFFFFFFC#32 + 2#32).toNat = some 0x11 ∧
      (atEnds 0).dmem.read (0xFFFFFFFC#32 + 3#32).toNat = some 0x82 ∧ Accepted (atEnds 0) 0xFFFFFFFC 2 ∧ Accepted (atEnds 0) 0xFFFFFFFC 4) ∧
    (0xFFFFFFFE#32 = (atEnds 0 otherConfig).getX 6 + (0 : BitVec 12).signExtend 32 ∧
      (atEnds 0 otherConfig).dmem.read (0xFFFFFFFE : Word).toNat = some 0x11 ∧
      (atEnds 0 otherConfig).dmem.read (0xFFFFFFFE#32 + 1#32).toNat = some 0x82 ∧
      (atEnds 0 otherConfig).dmem.read (0xFFFFFFFE#32 + 2#32).toNat = some 0x33 ∧
      (atEnds 0 otherConfig).dmem.read (0xFFFFFFFE#32 + 3#32).toNat = some 0x44 ∧
      Accepted (atEnds 0 otherConfig) 0xFFFFFFFE 2 ∧ Accepted (atEnds 0 otherConfig) 0xFFFFFFFE 4) := by decide

theorem witness_StoreResults :
    (0xFFFFFFFC#32 = (atEnds 0).getX 6 + (-2 : BitVec 12).signExtend 32 ∧ Accepted (atEnds 0) 0xFFFFFFFC 2 ∧
      Accepted (atEnds 0) 0xFFFFFFFC 4) ∧
    (0xFFFFFFFF#32 = (atEnds 0 otherConfig).getX 6 + (1 : BitVec 12).signExtend 32 ∧ Accepted (atEnds 0 otherConfig) 0xFFFFFFFF 2 ∧
      Accepted (atEnds 0 otherConfig) 0xFFFFFFFF 4) := by decide

theorem witness_MemoryEncodings :
    WellFormed (.lb 31 0 (-2048)) ∧ WellFormed (.loadSize11 1 0 31 2047) ∧ WellFormed (.sw 31 31 (-1)) ∧ WellFormed (.storeSize11 0 1 2 3) := by decide

theorem witness_SizeCode11Stops :
    WellFormed (.loadSize11 0 1 2 3) ∧ WellFormed (.loadSize11 1 1 2 3) ∧ WellFormed (.storeSize11 0 1 2 3) ∧ WellFormed (.storeSize11 1 1 2 3) := by decide

theorem witness_OpImmResults : WellFormed (.addi 31 0 (-2048)) ∧ WellFormed (.andi 0 31 2047) := by decide

theorem witness_OpImmShiftResults : WellFormed (.slli 1 2 31) ∧ WellFormed (.srli 1 2 1) ∧ WellFormed (.srai 1 2 0) := by decide

theorem witness_OpImmShiftOtherFunct7Results :
    WellFormed (.slliAnyFunct7 1 1 2 31) ∧ WellFormed (.slliAnyFunct7 0b1111111 1 2 0) ∧
      WellFormed (.sraiAnyFunct7 0b0100001 1 2 31) ∧ WellFormed (.sraiAnyFunct7 0b1111111 1 2 0) := by decide

theorem witness_OpResults :
    WellFormed (.add 1 6 7) ∧ 0xFFFFFFFE#32 = (atEnds 0).getX 6 ∧ 0xDEADBEEF#32 = (atEnds 0).getX 7 := by decide

theorem witness_OpSllAndNonStandardFunct7Results :
    WellFormed (.sll 1 6 7) ∧ WellFormed (.opAddAnyFunct7 0b0000010 1 6 7) ∧ WellFormed (.opAddAnyFunct7 0b1011111 1 6 7) ∧ WellFormed (.opSubAnyFunct7 0b0100001 1 6 7) ∧
      WellFormed (.opSrlAnyFunct7 0b0000010 1 6 7) ∧ WellFormed (.opSraAnyFunct7 0b1111111 1 6 7) ∧ WellFormed (.opSllAnyFunct7 0b0100000 1 6 7) ∧
      WellFormed (.opAndAnyFunct7 0b0000010 1 6 7) ∧ 0xFFFFFFFE#32 = (atEnds 0).getX 6 ∧ 0xDEADBEEF#32 = (atEnds 0).getX 7 := by decide

theorem witness_SystemWordsOnlyAdvance :
    WellFormed (.fence 0b1000 0b0011 0b0011 31 31) ∧ WellFormed .wfi ∧ WellFormed (.sfenceVma 31 31) ∧ WellFormed (.systemOther 0x0000080) ∧
      WellFormed (.systemOther 0x0000001) := by decide

theorem witness_CsrAndUnrecognisedWordsOnlyAdvance :
    WellFormed (.csrrw 31 31 0xFFF) ∧ WellFormed (.srxiBadFunct7 0b0000001 1 2 31) ∧ WellFormed (.srxiBadFunct7 0b1011111 1 2 0) ∧
      WellFormed (.unrecognised 0x00000000) ∧ WellFormed (.unrecognised 0xFFFFFFFF) := by decide

theorem witness_MulWordsOnlyAdvance :
    ((Instr.mul, 0x0000#32) ∈ [(Instr.mul, 0x0000#32), (Instr.mulh, 0x1000#32), (Instr.mulhsu, 0x2000#32), (Instr.mulhu, 0x3000#32),
      (Instr.div, 0x4000#32), (Instr.divu, 0x5000#32), (Instr.rem, 0x6000#32), (Instr.remu, 0x7000#32)]) ∧
    WellFormed (.mul 8 6 7) ∧ (atEnds 0).cfg.opFunct701 = .noop ∧ (atEnds 0 otherConfig).cfg.opFunct701 = .refuse :=
  ⟨List.mem_cons_self .., by decide⟩

/-- A load with a destination, one to register 0, and a store with none. -/
theorem witness_OnlyTheDestinationRegisterChanges :
    (exec (.lw 31 6 (-2)) (atEnds 0) = .next (nextOr (atEnds 0) (exec (.lw 31 6 (-2)) (atEnds 0))) ∧ destination (.lw 31 6 (-2)) = some 31 ∧
      destination (.lw 31 6 (-2)) ≠ some 30) ∧
    (exec (.addi 0 6 1) (atEnds 0) = .next (nextOr (atEnds 0) (exec (.addi 0 6 1) (atEnds 0))) ∧ destination (.addi 0 6 1) = some 0) ∧
    (exec (.sb 6 7 0) (atEnds 0) = .next (nextOr (atEnds 0) (exec (.sb 6 7 0) (atEnds 0))) ∧ destination (.sb 6 7 0) = none) :=
  ⟨⟨rfl, by decide⟩, ⟨rfl, by decide⟩, ⟨rfl, by decide⟩⟩

/-- A load, and a word store across the end of the address space with a byte just outside it. -/
theorem witness_OnlyStoresChangeMemory :
    (exec (.lw 31 6 (-2)) (atEnds 0) = .next (nextOr (atEnds 0) (exec (.lw 31 6 (-2)) (atEnds 0))) ∧ storeAccess (.lw 31 6 (-2)) (atEnds 0) = none) ∧
    (exec (.sw 6 7 1) (atEnds 0 otherConfig) = .next (nextOr (atEnds 0) (exec (.sw 6 7 1) (atEnds 0 otherConfig))) ∧
      storeAccess (.sw 6 7 1) (atEnds 0 otherConfig) = some (0xFFFFFFFF, 4) ∧ Outside 3 0xFFFFFFFF 4 ∧ Outside 0xFFFFFFFE 0xFFFFFFFF 4) :=
  ⟨⟨rfl, by decide⟩, ⟨rfl, by decide⟩⟩

/-- At pc 0xFFFFFFFC. -/
theorem witness_OnlyControlTransfersRedirectThePc :
    isControlTransfer .ecall = false ∧ exec .ecall ((atEnds 0).jump 0xFFFFFFFC) = .next ((atEnds 0).jump 0) ∧
      ((atEnds 0).jump 0xFFFFFFFC).pc = 0xFFFFFFFC#32 := ⟨rfl, rfl, rfl⟩

theorem witness_InstructionsIgnoreTheInputs : ∃ t, exec (.jalr 0 6 0) (atEnds 0 otherConfig) = .next t := ⟨_, rfl⟩

theorem witness_RegisterZeroIsHardwired :
    (∃ t, exec (.lw 0 6 (-2)) (atEnds 0) = .next t) ∧ (∃ t, step (atEnds 0xFFE32003) = .next t) ∧
      ∃ t, step { atEnds 0xFFE32003 otherConfig with rst := true } = .next t := ⟨⟨_, rfl⟩, ⟨_, rfl⟩, _, rfl⟩

theorem witness_MisalignedAccessFaults :
    (wideAccess (.lh 1 6 1) (atEnds 0) = some (0xFFFFFFFF, 2) ∧ (atEnds 0).cfg.misalignedData = .fault ∧ (0xFFFFFFFF : Word).toNat % 2 ≠ 0) ∧
    (wideAccess (.sw 6 7 0) (atEnds 0) = some (0xFFFFFFFE, 4) ∧ (0xFFFFFFFE : Word).toNat % 4 ≠ 0) := by decide

/-- The first and the last byte of a word missing. -/
theorem witness_UninitialisedLoadFaults :
    (loadAccess (.lw 1 6 6) (atEnds 0 otherConfig) = some (4, 4) ∧ Accepted (atEnds 0 otherConfig) 4 4 ∧ 0 < 4 ∧
      (atEnds 0 otherConfig).dmem.read (4#32 + BitVec.ofNat 32 0).toNat = none) ∧
    (loadAccess (.lw 1 6 1) (atEnds 0 otherConfig) = some (0xFFFFFFFF, 4) ∧ Accepted (atEnds 0 otherConfig) 0xFFFFFFFF 4 ∧ 3 < 4 ∧
      (atEnds 0 otherConfig).dmem.read (0xFFFFFFFF#32 + BitVec.ofNat 32 3).toNat = none) := by decide

theorem witness_StepRunsTheFetchedInstruction :
    (at100 0x00730433 []).rst = false ∧ (at100 0x00730433 []).pc.toNat % 4 = 0 ∧ WellFormed (.add 8 6 7) ∧
      HoldsBytes (at100 0x00730433 []).imem (at100 0x00730433 []).pc (encode (.add 8 6 7)) 4 := by decide

/-- A misaligned pc, and a word of which the image has all but the last byte. -/
theorem witness_FetchOutsideTheImageFaults :
    (((at100 0x13 []).jump 0x102).rst = false ∧ ((at100 0x13 []).jump 0x102).pc.toNat % 4 ≠ 0) ∧
    (let s : State := State.launch Config.specDefault [(0, 0x13), (1, 0), (2, 0)] [];
      s.rst = false ∧ ∃ k < 4, s.imem.read (s.pc + BitVec.ofNat 32 k).toNat = none) :=
  ⟨by decide, rfl, 3, by decide, by decide⟩

/-- A reset edge at which a jump's own target differs from the boot address; the image holds a word at the boot address. -/
theorem witness_ResetForcesTheBootAddress :
    let s : State := { at100 0x0040006F [] (cfg := { otherConfig with bootAddr := 0x100 }) with rst := true }
    s.rst = true ∧ (∃ t, step s = .next t) ∧ WellFormed (.jal 0 4) ∧ s.cfg.bootAddr.toNat % 4 = 0 ∧
      HoldsBytes s.imem s.cfg.bootAddr (encode (.jal 0 4)) 4 :=
  ⟨rfl, ⟨_, rfl⟩, by decide, by decide, by decide⟩

/-- An edge with reset asserted under each value of `RESET_STORE`, the word fetched completing in one and stopping in the other. -/
theorem witness_ResetEdgeEffects :
    let s : State := { at100 0x00003003 [] with rst := true }
    let u : State := { at100 0x00730433 [] (cfg := otherConfig) with rst := true }
    (s.rst = true ∧ s.cfg.resetStore = .suppressed ∧ s.fetch = some (encode (.loadSize11 0 0 0 0))) ∧
    (u.rst = true ∧ u.cfg.resetStore = .performed ∧ u.fetch = some (encode (.add 8 6 7)) ∧ WellFormed (.add 8 6 7) ∧
      ∃ t, exec (.add 8 6 7) u = .next t) :=
  ⟨⟨rfl, rfl, by decide⟩, rfl, rfl, by decide, by decide, ⟨_, rfl⟩⟩

/-- The last word of the address space as boot address; no image; a boot address that is not a multiple of 4. -/
theorem witness_LaunchRunsTheBootWord :
    Launchable otherConfig (Memory.writeLE [] 0xFFFFFFFC 0x13 4) ∧ ¬Launchable otherConfig [] ∧
      ¬Launchable { otherConfig with bootAddr := 2 } (Memory.writeLE [] 2 0x13 4) := by decide

theorem witness_HaltIdiomIsAFixedPoint : (at100 0x0000006F []).rst = false ∧ (at100 0x0000006F []).atHaltIdiom := by decide

theorem witness_LoadReturnsTheLastStore :
    (∃ t, exec (.sw 6 7 (-2)) (atEnds 0) = .next t) ∧ (∃ t, exec (.sh 6 7 1) (atEnds 0 otherConfig) = .next t) ∧
      (∃ t, exec (.sb 6 7 0) (atEnds 0) = .next t) := ⟨⟨_, rfl⟩, ⟨_, rfl⟩, ⟨_, rfl⟩⟩

/-- rd = rs1, so that the instruction's own operand is overwritten. -/
theorem witness_NextInstructionReadsTheNewValue :
    (6#5 ≠ 0#5 ∧ ∃ t, exec (.addi 6 6 1) (atEnds 0) = .next t) ∧
    ((∃ t, exec (.lw 6 6 (-2)) (atEnds 0) = .next t) ∧
      HoldsBytes (atEnds 0).dmem ((atEnds 0).getX 6 + (-2 : BitVec 12).signExtend 32) 0x82117F00 4) :=
  ⟨⟨by decide, _, rfl⟩, ⟨_, rfl⟩, by decide⟩

theorem witness_WriteEnableIsTheDestination :
    destination (decode 0x00730433) = some 8 ∧ destination (decode 0x00030003) = some 0 ∧ destination (decode 0x02730433) = none := by decide

theorem witness_MemorySignals :
    fieldOpcode 0x00037383 = 0b0000011#7 ∧ fieldOpcode 0x00737023 = 0b0100011#7 ∧
      (fieldOpcode 0x02730433 ≠ 0b0000011#7 ∧ fieldOpcode 0x02730433 ≠ 0b0100011#7) := by decide

/-- With a store, and at a reset edge. -/
theorem witness_EveryStepKeepsTheInvariant :
    ((atEnds 0x00730023).Inv ∧ ∃ t, step (atEnds 0x00730023) = .next t) ∧
      ((atEnds 0x00730023 otherConfig).Inv ∧ ∃ t, step { atEnds 0x00730023 otherConfig with rst := true } = .next t) :=
  ⟨⟨⟨by decide, by decide, by decide, by decide, by decide, by decide⟩, _, rfl⟩,
    ⟨⟨by decide, by decide, by decide, by decide, by decide, by decide⟩, _, rfl⟩⟩

theorem witness_InvariantHoldsAtLaunch :
    Memory.wf [(0xFFFFFFFC, 0x13), (0xFFFFFFFF, 0)] ∧ Memory.wf bytes200 ∧ otherConfig.bootAddr.getLsbD 0 = false := by decide

/-- A cycle the spec defines, one for each outcome the step stops at, and one that reads an unwritten register. -/
theorem witness_StepStopsWhereTheSpecDoes :
    step (atEnds 0x02730433 otherConfig) = .refused (.funct7_01 0x100) ∧
    modelOutcome (atEnds 0x02730433 otherConfig) = some (.funct7_01 0x100) ∧
    SpecDefined (atEnds 0x00730433) ∧ (atEnds 0x00730433).rst = false ∧
    faultOf (step State.reset) = some (.fetchUndefined 0) ∧ modelOutcome State.reset = some (.fetchUndefined 0) ∧
    faultOf (step (atEnds 0x00033083)) = some (.memSizeReserved 0x100) ∧ modelOutcome (atEnds 0x00033083) = some (.memSizeReserved 0x100) ∧
    modelOutcome (at100 0x00730433 []) = some (.unwrittenRegister 6) ∧ modelOutcome (at100 0x00730433 [(6, 1)]) = some (.unwrittenRegister 7) :=
  ⟨rfl, by decide⟩

/-- Two states that differ in what the unwritten x5 holds, at a cycle that reads x6 and x7. -/
theorem witness_UnwrittenRegistersNeverMatter :
    let s := atEnds 0x00730433
    let t : State := { s with x := s.x.set 5 0xFFFFFFFF }
    s ≠ t ∧ s.sameWhereWritten t ∧ SpecDefined s := by decide

/-- R80: `addi x1, x0, 1`, then `sb x7, 0(x6)`, which stores at 0xFFFFFFFE; data memory starts with the bytes of the image. -/
def storeAfterAddi : State :=
  let image : Memory := Memory.writeLE (Memory.writeLE [] 0x100 0x00100093 4) 0x104 0x00730023 4
  { atEnds 0 with imem := image, dmem := image }

/-- The state after the first step. -/
def storeNext : State := (storeAfterAddi.setX 1 1).jump 0x104

theorem test_runStates_storeAfterAddi : runStates 1 storeAfterAddi = [storeAfterAddi, storeNext] := by
  show (match step storeAfterAddi with | .next t => storeAfterAddi :: runStates 0 t | .fault _ => [storeAfterAddi] | .refused _ => [storeAfterAddi]) = _
  rw [show step storeAfterAddi = .next storeNext from rfl]
  rfl

theorem test_accesses_storeAfterAddi :
    stepStores storeAfterAddi = [] ∧ stepStores storeNext = [0xFFFFFFFE#32] ∧
      stepFetches storeAfterAddi = [0x100#32, 0x101#32, 0x102#32, 0x103#32] ∧ stepFetches storeNext = [0x104#32, 0x105#32, 0x106#32, 0x107#32] :=
  ⟨rfl, rfl, rfl, rfl⟩

theorem witness_NoSelfModifyMakesUnifiedMemoryExact :
    NoSelfModify 1 storeAfterAddi ∧ ∀ u ∈ runStates 1 storeAfterAddi, storeAfterAddi.unifiedOn (stepFetches u) := by
  obtain ⟨h1, h2, h3, h4⟩ := test_accesses_storeAfterAddi
  refine ⟨?_, fun u _ a _ => rfl⟩
  rw [NoSelfModify, test_runStates_storeAfterAddi]
  simp [h1, h2, h3, h4]

end Witnesses

end Sys2Proof.Tests
end

section
/-! SUPPORT. Every meaning is one of eleven shapes over the state. The one split over all 82 instructions is made here; what follows
about all instructions is a split over shapes. -/

namespace Sys2Proof.Machine

open Sys2Proof.Claims

/-- What an instruction's meaning does, with the operands it does it on. `mode` is R110's mem_mode; `code` is a store's size code (R69). -/
inductive Shape where
  | lui (rd : RegIdx) (imm20 : BitVec 20)
  | auipc (rd : RegIdx) (imm20 : BitVec 20)
  | op (f : AluFunc) (rd rs1 rs2 : RegIdx)
  | opImm (f : AluFunc) (rd rs1 : RegIdx) (imm : Word)
  | load (mode : BitVec 3) (rd rs1 : RegIdx) (imm : BitVec 12)
  | store (code : BitVec 2) (rs1 rs2 : RegIdx) (imm : BitVec 12)
  | branch (mode : BitVec 3) (rs1 rs2 : RegIdx) (imm : BitVec 13)
  | jal (rd : RegIdx) (imm : BitVec 21)
  | jalr (rd rs1 : RegIdx) (imm : BitVec 12)
  /-- The safe default: the PC advances and nothing else (R120). -/
  | nop
  /-- The M-extension words (R345 to R352), a shape of their own because `OP_FUNCT7_01` can refuse them (D28). -/
  | mul

/-- The shape of each instruction's meaning. -/
def shape : Instr → Shape
  | .lui rd imm20 => .lui rd imm20
  | .auipc rd imm20 => .auipc rd imm20
  | .jal rd imm => .jal rd imm
  | .jalr rd rs1 imm | .jalrF3Nonzero _ rd rs1 imm => .jalr rd rs1 imm
  | .beq rs1 rs2 imm => .branch 0b000#3 rs1 rs2 imm
  | .bne rs1 rs2 imm => .branch 0b001#3 rs1 rs2 imm
  | .blt rs1 rs2 imm => .branch 0b100#3 rs1 rs2 imm
  | .bge rs1 rs2 imm => .branch 0b101#3 rs1 rs2 imm
  | .bltu rs1 rs2 imm => .branch 0b110#3 rs1 rs2 imm
  | .bgeu rs1 rs2 imm => .branch 0b111#3 rs1 rs2 imm
  | .branchF3_01x f3lo rs1 rs2 imm => .branch (0b01#2 ++ f3lo) rs1 rs2 imm
  | .lb rd rs1 imm => .load 0b000#3 rd rs1 imm
  | .lh rd rs1 imm => .load 0b001#3 rd rs1 imm
  | .lw rd rs1 imm => .load 0b010#3 rd rs1 imm
  | .lbu rd rs1 imm => .load 0b100#3 rd rs1 imm
  | .lhu rd rs1 imm => .load 0b101#3 rd rs1 imm
  | .loadWordF3_110 rd rs1 imm => .load 0b110#3 rd rs1 imm
  | .loadSize11 f3hi rd rs1 imm => .load (f3hi ++ 0b11#2) rd rs1 imm
  | .sb rs1 rs2 imm | .storeByteF3_100 rs1 rs2 imm => .store 0b00#2 rs1 rs2 imm
  | .sh rs1 rs2 imm | .storeHalfF3_101 rs1 rs2 imm => .store 0b01#2 rs1 rs2 imm
  | .sw rs1 rs2 imm | .storeWordF3_110 rs1 rs2 imm => .store 0b10#2 rs1 rs2 imm
  | .storeSize11 _ rs1 rs2 imm => .store 0b11#2 rs1 rs2 imm
  | .addi rd rs1 imm => .opImm .add rd rs1 (immI imm)
  | .slti rd rs1 imm => .opImm .slt rd rs1 (immI imm)
  | .sltiu rd rs1 imm => .opImm .sltu rd rs1 (immI imm)
  | .xori rd rs1 imm => .opImm .xor rd rs1 (immI imm)
  | .ori rd rs1 imm => .opImm .or rd rs1 (immI imm)
  | .andi rd rs1 imm => .opImm .and rd rs1 (immI imm)
  | .slli rd rs1 shamt | .slliAnyFunct7 _ rd rs1 shamt => .opImm .sll rd rs1 (immSH shamt)
  | .srli rd rs1 shamt => .opImm .srl rd rs1 (immSH shamt)
  | .srai rd rs1 shamt | .sraiAnyFunct7 _ rd rs1 shamt => .opImm .sra rd rs1 (immSH shamt)
  | .add rd rs1 rs2 | .opAddAnyFunct7 _ rd rs1 rs2 => .op .add rd rs1 rs2
  | .sub rd rs1 rs2 | .opSubAnyFunct7 _ rd rs1 rs2 => .op .sub rd rs1 rs2
  | .sll rd rs1 rs2 | .opSllAnyFunct7 _ rd rs1 rs2 => .op .sll rd rs1 rs2
  | .slt rd rs1 rs2 | .opSltAnyFunct7 _ rd rs1 rs2 => .op .slt rd rs1 rs2
  | .sltu rd rs1 rs2 | .opSltuAnyFunct7 _ rd rs1 rs2 => .op .sltu rd rs1 rs2
  | .xor rd rs1 rs2 | .opXorAnyFunct7 _ rd rs1 rs2 => .op .xor rd rs1 rs2
  | .srl rd rs1 rs2 | .opSrlAnyFunct7 _ rd rs1 rs2 => .op .srl rd rs1 rs2
  | .sra rd rs1 rs2 | .opSraAnyFunct7 _ rd rs1 rs2 => .op .sra rd rs1 rs2
  | .or rd rs1 rs2 | .opOrAnyFunct7 _ rd rs1 rs2 => .op .or rd rs1 rs2
  | .and rd rs1 rs2 | .opAndAnyFunct7 _ rd rs1 rs2 => .op .and rd rs1 rs2
  | .mul _ _ _ | .mulh _ _ _ | .mulhsu _ _ _ | .mulhu _ _ _ | .div _ _ _ | .divu _ _ _ | .rem _ _ _ | .remu _ _ _ => .mul
  | .fence _ _ _ _ _ | .fenceI _ _ _ | .ecall | .ebreak | .mret | .sret | .wfi | .sfenceVma _ _ | .systemOther _ => .nop
  | .csrrw _ _ _ | .csrrs _ _ _ | .csrrc _ _ _ | .csrrwi _ _ _ | .csrrsi _ _ _ | .csrrci _ _ _ => .nop
  | .srxiBadFunct7 _ _ _ _ | .unrecognised _ => .nop

namespace Shape

/-- A shape's effect, in the model's shared operations. -/
def run : Shape → State → Result
  | .lui rd imm20, s => writeAndAdvance rd (immU imm20) s
  | .auipc rd imm20, s => writeAndAdvance rd (s.pc + immU imm20) s
  | .op f rd rs1 rs2, s => aluReg f rd rs1 rs2 s
  | .opImm f rd rs1 imm, s => aluImm f rd rs1 imm s
  | .load mode rd rs1 imm, s =>
    match sizeOfMode mode with
    | some size => loadTo size (wideningOfMode mode) rd rs1 imm s
    | none => sizeReserved s
  | .store code rs1 rs2 imm, s =>
    match sizeOfMode (0#1 ++ code) with
    | some size => storeFrom size rs1 rs2 imm s
    | none => sizeReserved s
  | .branch mode rs1 rs2 imm, s => branchIf (taken mode) rs1 rs2 imm s
  | .jal rd imm, s => linkAndJump rd (s.pc + immJ imm) s
  | .jalr rd rs1 imm, s => linkAndJump rd (jalrTarget s rs1 imm) s
  | .nop, s => safeDefault s
  | .mul, s => opFunct701 s

/-- The register a shape writes. -/
def dest : Shape → Option RegIdx
  | .lui rd _ | .auipc rd _ | .op _ rd _ _ | .opImm _ rd _ _ | .load _ rd _ _ | .jal rd _ | .jalr rd _ _ => some rd
  | .store _ _ _ _ | .branch _ _ _ _ | .nop | .mul => none

/-- The PC after a shape that completes (R160 to R163). -/
def nextPc (s : State) : Shape → Word
  | .branch mode rs1 rs2 imm =>
    if taken mode (branchFlags (s.getX rs1) (s.getX rs2)) then s.pc + immB imm else s.pc + 4#32
  | .jal _ imm => s.pc + immJ imm
  | .jalr _ rs1 imm => jalrTarget s rs1 imm
  | .lui _ _ | .auipc _ _ | .op _ _ _ _ | .opImm _ _ _ _ | .load _ _ _ _ | .store _ _ _ _ | .nop | .mul => s.pc + 4#32

/-- The Decoder's record of a shape (R111 to R120). -/
def record : Shape → DecodedInstruction
  | .lui rd imm20 =>
    { rs1 := 0#5, rs2 := 0#5, rd := rd, opClass := .lui, memMode := 0#3, aluFunc := .add, aluSrc := true, imm := immU imm20 }
  | .auipc rd imm20 =>
    { rs1 := 0#5, rs2 := 0#5, rd := rd, opClass := .auipc, memMode := 0#3, aluFunc := .add, aluSrc := true, imm := immU imm20 }
  | .op f rd rs1 rs2 =>
    { rs1 := rs1, rs2 := rs2, rd := rd, opClass := .alu, memMode := 0#3, aluFunc := f, aluSrc := false, imm := 0#32 }
  | .opImm f rd rs1 imm =>
    { rs1 := rs1, rs2 := 0#5, rd := rd, opClass := .alu, memMode := 0#3, aluFunc := f, aluSrc := true, imm := imm }
  | .load mode rd rs1 imm =>
    { rs1 := rs1, rs2 := 0#5, rd := rd, opClass := .load, memMode := mode, aluFunc := .add, aluSrc := true, imm := immI imm }
  | .store code rs1 rs2 imm =>
    { rs1 := rs1, rs2 := rs2, rd := 0#5, opClass := .store, memMode := 0#1 ++ code, aluFunc := .add, aluSrc := true, imm := immS imm }
  | .branch mode rs1 rs2 imm =>
    { rs1 := rs1, rs2 := rs2, rd := 0#5, opClass := .branch, memMode := mode, aluFunc := .sub, aluSrc := true, imm := immB imm }
  | .jal rd imm =>
    { rs1 := 0#5, rs2 := 0#5, rd := rd, opClass := .jal, memMode := 0#3, aluFunc := .add, aluSrc := true, imm := immJ imm }
  | .jalr rd rs1 imm =>
    { rs1 := rs1, rs2 := 0#5, rd := rd, opClass := .jalr, memMode := 0#3, aluFunc := .add, aluSrc := true, imm := immI imm }
  | .nop | .mul => defaultRecord

end Shape

/-! ### The shapes are the model's meanings -/

theorem sizeOfMode_append_11 (f3hi : BitVec 1) : sizeOfMode (f3hi ++ 0b11#2) = none := by
  revert f3hi; decide

/-- R266: the two funct3 values that no branch condition has are never taken. -/
theorem taken_01x (f3lo : BitVec 1) (fl : BranchFlags) : taken (0b01#2 ++ f3lo) fl = false := by
  obtain rfl | rfl : f3lo = 0#1 ∨ f3lo = 1#1 := by revert f3lo; decide
  all_goals rfl

theorem exec_eq_run (i : Instr) (s : State) : exec i s = (shape i).run s := by
  cases i
  case loadSize11 => simp only [shape, Shape.run, sizeOfMode_append_11]; rfl
  case branchF3_01x => simp only [shape, Shape.run, branchIf, taken_01x]; rfl
  all_goals rfl

theorem destination_eq_dest (i : Instr) : destination i = (shape i).dest := by
  cases i <;> rfl

theorem nextPc_of_not_controlTransfer {i : Instr} (h : isControlTransfer i = false) (s : State) :
    (shape i).nextPc s = s.pc + 4#32 := by
  cases i
  case branchF3_01x => simp only [shape, Shape.nextPc, taken_01x]; rfl
  case jal | jalr | jalrF3Nonzero | beq | bne | blt | bge | bltu | bgeu => cases h
  all_goals rfl

end Sys2Proof.Machine
end

section
/-! SUPPORT. What a shape that completes does to the state, once, and the frames of 10_state.md that follow. -/

namespace Sys2Proof.Machine

open Sys2Proof.Claims

/-- A shape that completes writes at most its destination and data memory, and puts its own next PC in the PC. -/
theorem Shape.run_eq_next {sh : Shape} {s t : State} (h : sh.run s = .next t) :
    ∃ v m, t = ((s.withDmem m).setX (sh.dest.getD 0#5) v).jump (sh.nextPc s) := by
  cases sh with
  | lui rd imm20 | auipc rd imm20 | op f rd rs1 rs2 | opImm f rd rs1 imm =>
    simp only [Shape.run, aluReg, aluImm, writeAndAdvance_eq, Host.Outcome.next.injEq] at h
    exact ⟨_, s.dmem, h.symm⟩
  | load mode rd rs1 imm =>
    cases hsize : sizeOfMode mode with
    | none => simp [Shape.run, hsize, sizeReserved] at h
    | some size =>
      simp only [Shape.run, hsize, loadTo_eq_next] at h
      obtain ⟨_, v, _, rfl⟩ := h
      exact ⟨_, s.dmem, by rw [State.advance_eq_jump, State.setX_pc]; rfl⟩
  | store code rs1 rs2 imm =>
    cases hsize : sizeOfMode (0#1 ++ code) with
    | none => simp [Shape.run, hsize, sizeReserved] at h
    | some size =>
      simp only [Shape.run, hsize, storeFrom_eq_next] at h
      exact ⟨0#32, _, h.2⟩
  | branch mode rs1 rs2 imm =>
    simp only [Shape.run, branchIf, Host.Outcome.next.injEq] at h
    refine ⟨0#32, s.dmem, ?_⟩
    rw [← h, Shape.nextPc]
    split <;> rfl
  | jal rd imm | jalr rd rs1 imm =>
    simp only [Shape.run, linkAndJump, Host.Outcome.next.injEq] at h
    exact ⟨_, s.dmem, h.symm⟩
  | nop =>
    simp only [Shape.run, safeDefault, Host.Outcome.next.injEq] at h
    exact ⟨0#32, s.dmem, h.symm⟩
  | mul =>
    cases hcfg : s.cfg.opFunct701 <;> simp only [Shape.run, opFunct701, hcfg, safeDefault, Host.Outcome.next.injEq, reduceCtorEq] at h
    exact ⟨0#32, s.dmem, h.symm⟩

theorem exec_eq_next {i : Instr} {s t : State} (h : exec i s = .next t) :
    ∃ v m, t = ((s.withDmem m).setX ((destination i).getD 0#5) v).jump ((shape i).nextPc s) := by
  rw [destination_eq_dest]
  exact Shape.run_eq_next (exec_eq_run i s ▸ h)

theorem exec_pc {i : Instr} {s t : State} (h : exec i s = .next t) : t.pc = (shape i).nextPc s := by
  obtain ⟨v, m, rfl⟩ := exec_eq_next h
  rfl

/-! ### What every commit leaves alone -/

section
variable {s t : State} (h : Commits s t)
include h

theorem Commits.imem_eq : t.imem = s.imem := by
  obtain ⟨rd, v, a, w, n, pc, hn, rfl⟩ := h; simp

theorem Commits.rst_eq : t.rst = s.rst := by
  obtain ⟨rd, v, a, w, n, pc, hn, rfl⟩ := h; simp

theorem Commits.cfg_eq : t.cfg = s.cfg := by
  obtain ⟨rd, v, a, w, n, pc, hn, rfl⟩ := h; simp

theorem Commits.x_zero_eq : t.x[0] = s.x[0] := by
  obtain ⟨rd, v, a, w, n, pc, hn, rfl⟩ := h; simp

theorem Commits.written_zero_eq : t.written[0] = s.written[0] := by
  obtain ⟨rd, v, a, w, n, pc, hn, rfl⟩ := h; simp

theorem Commits.dmem_wf (hs : s.dmem.wf) : t.dmem.wf := by
  obtain ⟨rd, v, a, w, n, pc, hn, rfl⟩ := h
  simpa using Memory.writeLE_wf hs a w n

theorem Commits.jump (pc : Word) : Commits s (t.jump pc) := by
  obtain ⟨rd, v, a, w, n, _, hn, rfl⟩ := h
  exact ⟨rd, v, a, w, n, pc, hn, by simp⟩

/-- A commit keeps every clause of the invariant but the one about the PC. -/
theorem Commits.inv (hs : s.Inv) (hpc : t.pc.getLsbD 0 = false) : t.Inv where
  dmem_wf := h.dmem_wf hs.dmem_wf
  imem_wf := h.imem_eq ▸ hs.imem_wf
  x0_zero := h.x_zero_eq.trans hs.x0_zero
  x0_written := h.written_zero_eq.trans hs.x0_written
  pc_even := hpc
  boot_even := h.cfg_eq ▸ hs.boot_even

end

/-- A cycle that answers a next state ran the instruction fetched. -/
theorem runCycle_eq_next {s t : State} (h : runCycle s = .next t) : ∃ w, s.fetch = some w ∧ exec (decode w) s = .next t := by
  cases hf : s.fetch with
  | none => simp [runCycle, hf] at h
  | some w => exact ⟨w, rfl, by rwa [runCycle_of_fetch hf] at h⟩

/-- A step that answers a next state is the fetched instruction's, or an edge that ends at the boot address. -/
theorem step_eq_next {s t : State} (h : step s = .next t) :
    Commits s t ∧ (t.pc = s.cfg.bootAddr ∨ ∃ w, exec (decode w) s = .next t) := by
  cases hr : s.rst with
  | false =>
    rw [step_of_not_rst hr] at h
    obtain ⟨w, -, hw⟩ := runCycle_eq_next h
    exact ⟨exec_commits hw, .inr ⟨w, hw⟩⟩
  | true =>
    rw [step_of_rst hr] at h
    obtain ⟨-, rfl⟩ | ⟨-, u, hu, rfl⟩ := resetEdge_eq_next h
    · exact ⟨.ofJump s _, .inl rfl⟩
    · obtain ⟨w, -, hw⟩ := runCycle_eq_next hu
      exact ⟨(exec_commits hw).jump _, .inl rfl⟩

/-! ### The two instructions of the back-to-back statement -/

theorem addi_writes (rd rs1 : RegIdx) (imm : BitVec 12) (s : State) :
    Writes (.addi rd rs1 imm) s rd (s.getX rs1 + imm.signExtend 32) :=
  writeAndAdvance_eq _ _ s

/-- A load of a word that completes has written the word its four bytes make. -/
theorem lw_eq_next {rd rs1 : RegIdx} {imm : BitVec 12} {s t : State} {v : Word} (h : exec (.lw rd rs1 imm) s = .next t)
    (hv : HoldsBytes s.dmem (s.getX rs1 + imm.signExtend 32) v 4) : t = (s.setX rd v).advance := by
  obtain ⟨-, w, hw, rfl⟩ := loadTo_eq_next.mp h
  have hread : s.dmem.readLE (s.effAddr rs1 (immI imm)) 4 = some v :=
    (Memory.readLE_eq_some (by decide)).mpr ⟨hv, fun i hi => BitVec.getLsbD_of_ge _ _ hi⟩
  obtain rfl : v = w := Option.some.inj (hread.symm.trans hw)
  rfl

end Sys2Proof.Machine
end

section
/-! SUPPORT. The two inputs that no instruction reads (R42): every shape commutes with replacing them. -/

namespace Sys2Proof.Machine

open Sys2Proof.Claims

section
variable (rst : Bool) (boot : Word) (s : State)

@[simp] theorem withInputs_pc : (withInputs rst boot s).pc = s.pc := rfl
@[simp] theorem withInputs_dmem : (withInputs rst boot s).dmem = s.dmem := rfl
@[simp] theorem withInputs_getX (i : RegIdx) : (withInputs rst boot s).getX i = s.getX i := rfl
@[simp] theorem withInputs_effAddr (b : RegIdx) (o : Word) : (withInputs rst boot s).effAddr b o = s.effAddr b o := rfl
@[simp] theorem withInputs_misaligned (a : Word) (size : AccessSize) :
    (withInputs rst boot s).misaligned a size = s.misaligned a size := rfl
@[simp] theorem withInputs_opFunct701 : (withInputs rst boot s).cfg.opFunct701 = s.cfg.opFunct701 := rfl
@[simp] theorem withInputs_jump (t : Word) : (withInputs rst boot s).jump t = withInputs rst boot (s.jump t) := rfl
@[simp] theorem withInputs_advance : (withInputs rst boot s).advance = withInputs rst boot s.advance := rfl
@[simp] theorem withInputs_withDmem (m : Memory) :
    (withInputs rst boot s).withDmem m = withInputs rst boot (s.withDmem m) := rfl
@[simp] theorem withInputs_setX (i : RegIdx) (v : Word) :
    (withInputs rst boot s).setX i v = withInputs rst boot (s.setX i v) := by
  unfold State.setX; split <;> rfl

theorem loadTo_withInputs (size : AccessSize) (how : Widening) (rd rs1 : RegIdx) (imm : BitVec 12) :
    loadTo size how rd rs1 imm (withInputs rst boot s) = mapNext (withInputs rst boot) (loadTo size how rd rs1 imm s) := by
  cases hm : s.misaligned (s.effAddr rs1 (immI imm)) size with
  | true => simp [loadTo, hm, mapNext]
  | false =>
    cases hr : s.dmem.readLE (s.effAddr rs1 (immI imm)) size.bytes <;> simp [loadTo, writeAndAdvance, hm, hr, mapNext]

theorem storeFrom_withInputs (size : AccessSize) (rs1 rs2 : RegIdx) (imm : BitVec 12) :
    storeFrom size rs1 rs2 imm (withInputs rst boot s) = mapNext (withInputs rst boot) (storeFrom size rs1 rs2 imm s) := by
  cases hm : s.misaligned (s.effAddr rs1 (immS imm)) size <;> simp [storeFrom, hm, mapNext]

theorem Shape.run_withInputs (sh : Shape) :
    sh.run (withInputs rst boot s) = mapNext (withInputs rst boot) (sh.run s) := by
  cases sh with
  | lui rd imm20 | auipc rd imm20 | op f rd rs1 rs2 | opImm f rd rs1 imm =>
    simp [Shape.run, aluReg, aluImm, writeAndAdvance, mapNext]
  | load mode rd rs1 imm =>
    cases hsize : sizeOfMode mode with
    | none => simp [Shape.run, hsize, sizeReserved, mapNext]
    | some size => simp only [Shape.run, hsize, loadTo_withInputs]
  | store code rs1 rs2 imm =>
    cases hsize : sizeOfMode (0#1 ++ code) with
    | none => simp [Shape.run, hsize, sizeReserved, mapNext]
    | some size => simp only [Shape.run, hsize, storeFrom_withInputs]
  | branch mode rs1 rs2 imm =>
    cases ht : taken mode (branchFlags (s.getX rs1) (s.getX rs2)) <;> simp [Shape.run, branchIf, ht, mapNext]
  | jal rd imm | jalr rd rs1 imm => simp [Shape.run, linkAndJump, jalrTarget, mapNext]
  | nop => rfl
  | mul => cases hcfg : s.cfg.opFunct701 <;> simp [Shape.run, opFunct701, hcfg, safeDefault, mapNext]

end

end Sys2Proof.Machine
end

section
/-! SUPPORT. The shape of a decoded word, sub-decoder by sub-decoder, and that the Decoder's record is that shape's (R110 to R121). -/

namespace Sys2Proof.Machine

open Sys2Proof.Claims

theorem funct3_cases : ∀ f : BitVec 3, f = 0b000#3 ∨ f = 0b001#3 ∨ f = 0b010#3 ∨ f = 0b011#3 ∨ f = 0b100#3 ∨ f = 0b101#3 ∨
    f = 0b110#3 ∨ f = 0b111#3 := by decide

section
variable (w : Word)

/-- funct3 is its top bit and its two low bits: the size code 11 of a LOAD (R115). -/
theorem append_11_eq_fieldFunct3 (h : fieldFunct3 w = 0b011#3 ∨ fieldFunct3 w = 0b111#3) :
    w.extractLsb' 14 1 ++ 0b11#2 = fieldFunct3 w := by
  have hlow : (fieldFunct3 w).extractLsb' 0 2 = 0b11#2 := by rcases h with h | h <;> rw [h] <;> rfl
  rw [← hlow]
  refine BitVec.eq_of_getLsbD_eq fun i hi => ?_
  simp only [fieldFunct3, BitVec.getLsbD_append, BitVec.getLsbD_extractLsb']
  interval_cases i <;> simp

/-- funct3 is its two top bits and its low bit: the 01x of a BRANCH (R117). -/
theorem append_01_eq_fieldFunct3 (h : fieldFunct3 w = 0b010#3 ∨ fieldFunct3 w = 0b011#3) :
    0b01#2 ++ w.extractLsb' 12 1 = fieldFunct3 w := by
  have hhigh : (fieldFunct3 w).extractLsb' 1 2 = 0b01#2 := by rcases h with h | h <;> rw [h] <;> rfl
  rw [← hhigh]
  refine BitVec.eq_of_getLsbD_eq fun i hi => ?_
  simp only [fieldFunct3, BitVec.getLsbD_append, BitVec.getLsbD_extractLsb']
  interval_cases i <;> simp

theorem shape_decodeJalr : shape (decodeJalr w) = .jalr (fieldRd w) (fieldRs1 w) (fieldImmI w) := by
  unfold decodeJalr; split <;> rfl

theorem shape_decodeBranch : shape (decodeBranch w) = .branch (fieldFunct3 w) (fieldRs1 w) (fieldRs2 w) (fieldImmB w) := by
  have h01 := append_01_eq_fieldFunct3 w
  rcases funct3_cases (fieldFunct3 w) with h | h | h | h | h | h | h | h <;> simp_all [decodeBranch, shape]

theorem shape_decodeLoad : shape (decodeLoad w) = .load (fieldFunct3 w) (fieldRd w) (fieldRs1 w) (fieldImmI w) := by
  have h11 := append_11_eq_fieldFunct3 w
  rcases funct3_cases (fieldFunct3 w) with h | h | h | h | h | h | h | h <;> simp_all [decodeLoad, shape]

theorem shape_decodeStore :
    shape (decodeStore w) = .store ((fieldFunct3 w).extractLsb' 0 2) (fieldRs1 w) (fieldRs2 w) (fieldImmS w) := by
  rcases funct3_cases (fieldFunct3 w) with h | h | h | h | h | h | h | h <;> simp [decodeStore, shape, h]

theorem shape_decodeOpMul : shape (decodeOpMul w) = .mul := by
  simp only [decodeOpMul, apply_ite shape]
  simp only [shape, ite_self]

theorem shape_decodeMiscMem : shape (decodeMiscMem w) = .nop := by
  simp only [decodeMiscMem, apply_ite shape]
  simp only [shape, ite_self]

theorem shape_decodeSystem : shape (decodeSystem w) = .nop := by
  simp only [decodeSystem, apply_ite shape]
  simp only [shape, ite_self]

theorem shape_decodeOpZero :
    shape (decodeOpZero w) = .op (aluFuncOf (fieldFunct3 w) false) (fieldRd w) (fieldRs1 w) (fieldRs2 w) := by
  rcases funct3_cases (fieldFunct3 w) with h | h | h | h | h | h | h | h <;> simp [decodeOpZero, shape, aluFuncOf, h]

theorem shape_decodeOpByBit5 {std : RegIdx → RegIdx → RegIdx → Instr} {one zero : BitVec 7 → RegIdx → RegIdx → RegIdx → Instr}
    {f1 f0 : AluFunc} (hstd : ∀ rd rs1 rs2, shape (std rd rs1 rs2) = .op f1 rd rs1 rs2)
    (hone : ∀ f7 rd rs1 rs2, shape (one f7 rd rs1 rs2) = .op f1 rd rs1 rs2)
    (hzero : ∀ f7 rd rs1 rs2, shape (zero f7 rd rs1 rs2) = .op f0 rd rs1 rs2) :
    shape (decodeOpByBit5 w std one zero) =
      .op (if (fieldFunct7 w).getLsbD 5 then f1 else f0) (fieldRd w) (fieldRs1 w) (fieldRs2 w) := by
  unfold decodeOpByBit5
  split_ifs <;> simp_all

theorem shape_decodeOpOther :
    shape (decodeOpOther w) =
      .op (aluFuncOf (fieldFunct3 w) ((fieldFunct7 w).getLsbD 5)) (fieldRd w) (fieldRs1 w) (fieldRs2 w) := by
  have hadd := shape_decodeOpByBit5 w (std := .sub) (one := .opSubAnyFunct7) (zero := .opAddAnyFunct7)
    (fun _ _ _ => rfl) (fun _ _ _ _ => rfl) (fun _ _ _ _ => rfl)
  have hshift := shape_decodeOpByBit5 w (std := .sra) (one := .opSraAnyFunct7) (zero := .opSrlAnyFunct7)
    (fun _ _ _ => rfl) (fun _ _ _ _ => rfl) (fun _ _ _ _ => rfl)
  rcases funct3_cases (fieldFunct3 w) with h | h | h | h | h | h | h | h <;>
    simp [decodeOpOther, hadd, hshift, aluFuncOf, h] <;> rfl

/-- OP (R119): the M-extension words, or funct3 and funct7[5] give the function. -/
theorem shape_decodeOp :
    shape (decodeOp w) = if fieldFunct7 w = 0b0000001#7 then .mul
      else .op (aluFuncOf (fieldFunct3 w) ((fieldFunct7 w).getLsbD 5)) (fieldRd w) (fieldRs1 w) (fieldRs2 w) := by
  unfold decodeOp
  split_ifs with h1 h0
  · exact shape_decodeOpMul w
  · rw [shape_decodeOpZero, h0]; rfl
  · exact shape_decodeOpOther w

theorem record_decodeOp : (shape (decodeOp w)).record = recordOp w := by
  rw [shape_decodeOp, recordOp]
  split <;> rfl

/-- OP-IMM with funct3 101 (R116, R353). -/
theorem shape_decodeShiftRightImm :
    shape (decodeShiftRightImm w) =
      if fieldFunct7 w ≠ 0b0000000#7 ∧ (fieldFunct7 w).getLsbD 5 = false then .nop
      else .opImm (if (fieldFunct7 w).getLsbD 5 then .sra else .srl) (fieldRd w) (fieldRs1 w) (immSH (fieldRs2 w)) := by
  unfold decodeShiftRightImm
  simp only [apply_ite shape]
  simp only [shape]
  split_ifs <;> simp_all

/-- OP-IMM (R116): only a right shift with a bad funct7 is the safe default. -/
theorem shape_decodeOpImm :
    shape (decodeOpImm w) =
      if fieldFunct3 w = 0b101#3 ∧ fieldFunct7 w ≠ 0b0000000#7 ∧ (fieldFunct7 w).getLsbD 5 = false then .nop
      else .opImm (aluFuncOf (fieldFunct3 w) (fieldFunct3 w == 0b101#3 && (fieldFunct7 w).getLsbD 5)) (fieldRd w) (fieldRs1 w)
        (if fieldFunct3 w == 0b001#3 || fieldFunct3 w == 0b101#3 then immSH (fieldRs2 w) else immI (fieldImmI w)) := by
  simp only [decodeOpImm, apply_ite shape, shape_decodeShiftRightImm]
  simp only [shape, ite_self]
  rcases funct3_cases (fieldFunct3 w) with h | h | h | h | h | h | h | h <;> simp [h, aluFuncOf]

theorem record_decodeOpImm : (shape (decodeOpImm w)).record = recordOpImm w := by
  rw [shape_decodeOpImm, recordOpImm]
  split <;> rfl

/-- The shape of any word, by its opcode (R99, R111 to R120). -/
theorem shape_decode :
    shape (decode w) =
      if fieldOpcode w = 0b0110111#7 then .lui (fieldRd w) (fieldImmU w)
      else if fieldOpcode w = 0b0010111#7 then .auipc (fieldRd w) (fieldImmU w)
      else if fieldOpcode w = 0b1101111#7 then .jal (fieldRd w) (fieldImmJ w)
      else if fieldOpcode w = 0b1100111#7 then .jalr (fieldRd w) (fieldRs1 w) (fieldImmI w)
      else if fieldOpcode w = 0b0000011#7 then .load (fieldFunct3 w) (fieldRd w) (fieldRs1 w) (fieldImmI w)
      else if fieldOpcode w = 0b0010011#7 then shape (decodeOpImm w)
      else if fieldOpcode w = 0b1100011#7 then .branch (fieldFunct3 w) (fieldRs1 w) (fieldRs2 w) (fieldImmB w)
      else if fieldOpcode w = 0b0100011#7 then
        .store ((fieldFunct3 w).extractLsb' 0 2) (fieldRs1 w) (fieldRs2 w) (fieldImmS w)
      else if fieldOpcode w = 0b0110011#7 then shape (decodeOp w)
      else .nop := by
  simp only [decode, apply_ite shape, shape_decodeJalr, shape_decodeLoad, shape_decodeBranch, shape_decodeStore,
    shape_decodeMiscMem, shape_decodeSystem]
  simp only [shape, ite_self]

/-- The Decoder's record is that of the decoded instruction's shape. -/
theorem decodeRecord_eq : decodeRecord w = (shape (decode w)).record := by
  simp only [shape_decode, decodeRecord, apply_ite Shape.record, record_decodeOpImm, record_decodeOp]
  rfl

/-- The M-extension words are OP with funct7 0000001 (R119, D28). -/
theorem shape_decode_eq_mul : shape (decode w) = .mul ↔ fieldOpcode w = 0b0110011#7 ∧ fieldFunct7 w = 0b0000001#7 := by
  rw [shape_decode]
  by_cases hop : fieldOpcode w = 0b0110011#7
  · simp [hop, shape_decodeOp]
  · simp only [hop, if_false, false_and, iff_false, shape_decodeOpImm]
    split_ifs <;> simp

/-- The byte offset of a branch or a JAL is even (R96, R98). -/
def Shape.evenOffset : Shape → Bool
  | .branch _ _ _ imm => Sys2Proof.evenOffset imm
  | .jal _ imm => Sys2Proof.evenOffset imm
  | _ => true

theorem evenOffset_fieldImmB : evenOffset (fieldImmB w) = true := by
  simp only [evenOffset, fieldImmB, BitVec.getLsbD_append]; rfl

theorem evenOffset_fieldImmJ : evenOffset (fieldImmJ w) = true := by
  simp only [evenOffset, fieldImmJ, BitVec.getLsbD_append]; rfl

/-- The decoder gives every branch and every JAL an even offset. -/
theorem evenOffset_shape_decode : (shape (decode w)).evenOffset = true := by
  rw [shape_decode, shape_decodeOpImm, shape_decodeOp]
  simp only [apply_ite Shape.evenOffset]
  simp only [Shape.evenOffset, evenOffset_fieldImmB, evenOffset_fieldImmJ, ite_self]

end

theorem even_add {a b : Word} (ha : a.getLsbD 0 = false) (hb : b.getLsbD 0 = false) : (a + b).getLsbD 0 = false := by
  simp [BitVec.getLsbD_add, ha, hb, -BitVec.getLsbD_eq_getElem]

theorem signExtend_even {n : Nat} {imm : BitVec (n + 1)} (h : evenOffset imm = true) : (imm.signExtend 32).getLsbD 0 = false := by
  have h0 : imm.getLsbD 0 = false := by simpa [evenOffset] using h
  simp [BitVec.getLsbD_signExtend, h0, -BitVec.getLsbD_eq_getElem]

theorem Shape.nextPc_even {s : State} (hs : s.pc.getLsbD 0 = false) {sh : Shape} (h : sh.evenOffset = true) :
    (sh.nextPc s).getLsbD 0 = false := by
  cases sh with
  | branch mode rs1 rs2 imm =>
    rw [Shape.nextPc]
    split
    · exact even_add hs (signExtend_even h)
    · exact even_add hs rfl
  | jal rd imm => exact even_add hs (signExtend_even h)
  | jalr rd rs1 imm => simp [Shape.nextPc, jalrTarget]
  | _ => exact even_add hs rfl

end Sys2Proof.Machine
end

section
/-! SUPPORT. The block of 40_datapath.md does what the shape of the decoded instruction does, so a step may be read off either description. -/

namespace Sys2Proof.Machine

open Sys2Proof.Claims

/-- What the edge makes of the state a cycle answers: under reset the boot address takes the PC's place (R164, R400). -/
def State.atEdge (s u : State) : State := if s.rst then u.jump s.cfg.bootAddr else u

theorem State.atEdge_of_rst {s : State} (h : s.rst = true) : s.atEdge = fun u => u.jump s.cfg.bootAddr := by
  funext u; exact if_pos h

theorem State.atEdge_of_not_rst {s : State} (h : s.rst = false) : s.atEdge = id := by
  funext u; simp [State.atEdge, h]

theorem State.atEdge_jump (s u : State) (pc : Word) :
    s.atEdge (u.jump pc) = u.jump (if s.rst then s.cfg.bootAddr else pc) := by
  unfold State.atEdge; split <;> rfl

/-- The PC unit's choice for the ControlWord of a shape is the shape's next PC, but for reset (R164). -/
theorem nextPc_record (s : State) (sh : Shape) :
    nextPc s.rst s.cfg.bootAddr (controlOf s sh.record).pcOp (s.pc + 4#32) (s.pc + sh.record.imm) (s.pc + sh.record.imm)
        (aluResult s sh.record &&& 0xFFFFFFFE#32) =
      if s.rst then s.cfg.bootAddr else sh.nextPc s := by
  cases sh with
  | branch mode rs1 rs2 imm =>
    cases ht : taken mode (branchFlags (s.getX rs1) (s.getX rs2)) <;>
      simp [nextPc, controlOf, controlTable, Shape.record, Shape.nextPc, ht]
  | _ => rfl

/-- The data access of a cycle (R65 to R71). -/
def cycleAccess (s : State) (d : DecodedInstruction) : Except Fault (Word × Memory) :=
  memoryAccess s (controlOf s d).memOp (controlOf s d).memMode (aluResult s d) (s.getX d.rs2)

/-- What a cycle commits when its data access answers `ld` and `mem`: the memory, the write-back and the next PC together (R180). -/
def cycleCommit (s : State) (d : DecodedInstruction) (ld : Word) (mem : Memory) (pc : Word) : State :=
  (if (controlOf s d).regWriteEnable then
      (s.withDmem mem).setX d.rd (writeBack (controlOf s d).wbSelect (aluResult s d) ld (s.pc + 4#32))
    else s.withDmem mem).jump pc

theorem datapathCycle_of_access {s : State} {d : DecodedInstruction} {ld : Word} {mem : Memory} (h : cycleAccess s d = .ok (ld, mem)) :
    datapathCycle s d = .next (cycleCommit s d ld mem
      (nextPc s.rst s.cfg.bootAddr (controlOf s d).pcOp (s.pc + 4#32) (s.pc + d.imm) (s.pc + d.imm)
        (aluResult s d &&& 0xFFFFFFFE#32))) := by
  rw [cycleAccess] at h
  simp only [datapathCycle, h, cycleCommit]

theorem datapathCycle_of_error {s : State} {d : DecodedInstruction} {f : Fault} (h : cycleAccess s d = .error f) :
    datapathCycle s d = .fault f := by
  rw [cycleAccess] at h
  simp only [datapathCycle, h]

/-- A shape's record whose data access answers commits with the shape's own next PC, under reset with the boot address. -/
theorem datapathCycle_record_of_access {s : State} {sh : Shape} {ld : Word} {mem : Memory}
    (h : cycleAccess s sh.record = .ok (ld, mem)) :
    datapathCycle s sh.record = mapNext s.atEdge (.next (cycleCommit s sh.record ld mem (sh.nextPc s))) := by
  rw [datapathCycle_of_access h, nextPc_record, mapNext, cycleCommit, cycleCommit, State.atEdge_jump]

/-- A LOAD is its data access (R66, R182): the fault where that answers one, else the loaded word written to rd. -/
theorem run_load (mode : BitVec 3) (rd rs1 : RegIdx) (imm : BitVec 12) (s : State) (v : Word) :
    (Shape.load mode rd rs1 imm).run s =
      match memoryAccess s .load mode (s.effAddr rs1 (immI imm)) v with
      | .error f => .fault f
      | .ok (ld, mem) => .next ((s.withDmem mem).setX rd ld).advance := by
  cases hsize : sizeOfMode mode with
  | none => simp [Shape.run, memoryAccess, hsize, sizeReserved]
  | some size =>
    cases hmis : s.misaligned (s.effAddr rs1 (immI imm)) size with
    | true => simp [Shape.run, memoryAccess, hsize, loadTo, hmis]
    | false =>
      cases hread : s.dmem.readLE (s.effAddr rs1 (immI imm)) size.bytes <;>
        simp [Shape.run, memoryAccess, hsize, loadTo, hmis, hread, writeAndAdvance]

/-- A STORE is its data access (R67, R182): the fault where that answers one, else the new memory. -/
theorem run_store (code : BitVec 2) (rs1 rs2 : RegIdx) (imm : BitVec 12) (s : State) :
    (Shape.store code rs1 rs2 imm).run s =
      match memoryAccess s .store (0#1 ++ code) (s.effAddr rs1 (immS imm)) (s.getX rs2) with
      | .error f => .fault f
      | .ok (_, mem) => .next (s.withDmem mem).advance := by
  cases hsize : sizeOfMode (0#1 ++ code) with
  | none => simp [Shape.run, memoryAccess, hsize, sizeReserved]
  | some size =>
    cases hmis : s.misaligned (s.effAddr rs1 (immS imm)) size <;> simp [Shape.run, memoryAccess, hsize, storeFrom, hmis]

/-- The block's cycle on a shape's record is the shape, but that reset takes the PC. -/
theorem datapathCycle_record (s : State) (sh : Shape) (hmul : sh = .mul → s.cfg.opFunct701 = .noop) :
    datapathCycle s sh.record = mapNext s.atEdge (sh.run s) := by
  cases sh with
  | load mode rd rs1 imm =>
    rw [run_load mode rd rs1 imm s (s.getX 0#5)]
    cases hacc : memoryAccess s .load mode (s.effAddr rs1 (immI imm)) (s.getX 0#5) with
    | error f => exact datapathCycle_of_error hacc
    | ok p =>
      rw [datapathCycle_record_of_access (s := s) (sh := .load mode rd rs1 imm) (ld := p.1) (mem := p.2) hacc]
      simp [State.advance_eq_jump, cycleCommit, Shape.nextPc, Shape.record, controlOf, controlTable, writeBack]
  | store code rs1 rs2 imm =>
    rw [run_store]
    cases hacc : memoryAccess s .store (0#1 ++ code) (s.effAddr rs1 (immS imm)) (s.getX rs2) with
    | error f => exact datapathCycle_of_error hacc
    | ok p => rw [datapathCycle_record_of_access (s := s) (sh := .store code rs1 rs2 imm) (ld := p.1) (mem := p.2) hacc]; rfl
  | lui rd imm20 =>
    rw [datapathCycle_record_of_access (ld := 0#32) (mem := s.dmem) rfl, Shape.run, writeAndAdvance_eq]
    simp [cycleCommit, Shape.record, Shape.nextPc, controlOf, controlTable, writeBack, aluResult, operandA, operandB, alu]
  | auipc rd imm20 =>
    rw [datapathCycle_record_of_access (ld := 0#32) (mem := s.dmem) rfl, Shape.run, writeAndAdvance_eq]
    rfl
  | op f rd rs1 rs2 | opImm f rd rs1 imm =>
    rw [datapathCycle_record_of_access (ld := 0#32) (mem := s.dmem) rfl]
    simp only [Shape.run, aluReg, aluImm, writeAndAdvance_eq]
    rfl
  | branch mode rs1 rs2 imm =>
    rw [datapathCycle_record_of_access (ld := 0#32) (mem := s.dmem) rfl, Shape.run, branchIf, Shape.nextPc]
    cases taken mode (branchFlags (s.getX rs1) (s.getX rs2)) <;> rfl
  | jal rd imm | jalr rd rs1 imm | nop =>
    rw [datapathCycle_record_of_access (ld := 0#32) (mem := s.dmem) rfl]
    rfl
  | mul =>
    rw [datapathCycle_record_of_access (ld := 0#32) (mem := s.dmem) rfl, Shape.run, opFunct701, hmul rfl]
    rfl

theorem mapNext_id (r : Result) : mapNext id r = r := by cases r <;> rfl

/-- Where the fetched word takes effect, the edge puts reset's PC over what the cycle answers (R400, R403). -/
theorem step_eq_mapNext {s : State} (h : ¬(s.rst = true ∧ s.cfg.resetStore = .suppressed)) :
    step s = mapNext s.atEdge (runCycle s) := by
  cases hr : s.rst with
  | false => rw [step_of_not_rst hr, State.atEdge_of_not_rst hr, mapNext_id]
  | true =>
    rw [step_of_rst hr, State.atEdge_of_rst hr]
    cases hc : s.cfg.resetStore with
    | suppressed => exact absurd ⟨hr, hc⟩ h
    | performed => cases hrun : runCycle s <;> simp [resetEdge, hc, mapNext]

/-- The block's step is the machine's, so a step may be read component by component. -/
theorem step_eq_datapathStep (s : State) : step s = datapathStep s := by
  unfold datapathStep
  split_ifs with hedge
  · obtain ⟨hr, hc⟩ := hedge
    simp [step_of_rst hr, resetEdge, hc]
  · rw [step_eq_mapNext hedge]
    cases hf : s.fetch with
    | none => simp [runCycle, hf, mapNext]
    | some w =>
      dsimp only
      rw [runCycle_of_fetch hf, exec_eq_run, decodeRecord_eq]
      split_ifs with hmul
      · obtain ⟨hc, hm⟩ := hmul
        simp [(shape_decode_eq_mul w).mpr hm, Shape.run, opFunct701, hc, mapNext]
      · refine (datapathCycle_record s _ fun hm => ?_).symm
        cases hc : s.cfg.opFunct701 with
        | noop => rfl
        | refuse => exact absurd ⟨hc, (shape_decode_eq_mul w).mp hm⟩ hmul

/-! ### What a cycle reads -/

theorem unwrittenRead_eq_none {s : State} {d : DecodedInstruction} :
    unwrittenRead s d = none ↔ s.hasWritten d.rs1 = true ∧ s.hasWritten d.rs2 = true := by
  unfold unwrittenRead
  cases s.hasWritten d.rs1 <;> cases s.hasWritten d.rs2 <;> simp

theorem accessOutcome_eq_none {s : State} {d : DecodedInstruction} :
    accessOutcome s d = none ↔ ∃ ld mem, cycleAccess s d = .ok (ld, mem) := by
  unfold accessOutcome cycleAccess
  cases memoryAccess s (controlOf s d).memOp (controlOf s d).memMode (aluResult s d) (s.getX d.rs2) with
  | ok p => obtain ⟨ld, mem⟩ := p; simp
  | error f => cases f <;> simp

/-- A cycle with a meaning fetched a word, is not refused, reads written registers only, and its data access answers (R182). -/
theorem SpecDefined.elim {s : State} (h : SpecDefined s) :
    ∃ w, s.fetch = some w ∧
      ¬(s.cfg.opFunct701 = .refuse ∧ fieldOpcode w = 0b0110011#7 ∧ fieldFunct7 w = 0b0000001#7) ∧
      s.hasWritten (decodeRecord w).rs1 = true ∧ s.hasWritten (decodeRecord w).rs2 = true ∧
      ∃ ld mem, cycleAccess s (decodeRecord w) = .ok (ld, mem) := by
  unfold SpecDefined modelOutcome at h
  cases hf : s.fetch with
  | none => simp [hf] at h
  | some w =>
    simp only [hf] at h
    split_ifs at h with hmul
    cases hun : unwrittenRead s (decodeRecord w) with
    | some i => simp [hun] at h
    | none =>
      have hacc : accessOutcome s (decodeRecord w) = none := by simpa [hun] using h
      obtain ⟨h1, h2⟩ := unwrittenRead_eq_none.mp hun
      exact ⟨w, rfl, hmul, h1, h2, accessOutcome_eq_none.mp hacc⟩

section
variable {s t : State} (h : s.sameWhereWritten t)
include h

theorem sameWhereWritten_jump (pc : Word) : (s.jump pc).sameWhereWritten (t.jump pc) := by
  obtain ⟨-, hw, hd, hi, hr, hc, hx⟩ := h
  exact ⟨rfl, hw, hd, hi, hr, hc, hx⟩

theorem sameWhereWritten_withDmem (m : Memory) : (s.withDmem m).sameWhereWritten (t.withDmem m) := by
  obtain ⟨hp, hw, -, hi, hr, hc, hx⟩ := h
  exact ⟨hp, hw, rfl, hi, hr, hc, hx⟩

theorem sameWhereWritten_setX (i : RegIdx) (v : Word) : (s.setX i v).sameWhereWritten (t.setX i v) := by
  obtain ⟨hp, hw, hd, hi, hr, hc, hx⟩ := h
  refine ⟨by simpa, ?_, by simpa, by simpa, by simpa, by simpa, fun j hj => ?_⟩
  · unfold State.setX
    split
    · exact hw
    · simp [hw]
  · rw [State.getX_setX, State.getX_setX]
    split_ifs with hji
    · rfl
    · exact hx j (by simpa [State.hasWritten_setX, hji] using hj)

theorem fetch_eq_of_sameWhereWritten : s.fetch = t.fetch := by
  obtain ⟨hp, -, -, hi, -⟩ := h
  simp only [State.fetch, hp, hi]

theorem memoryAccess_eq_of_sameWhereWritten (op : MemOp) (mode : BitVec 3) (a v : Word) :
    memoryAccess s op mode a v = memoryAccess t op mode a v := by
  obtain ⟨hp, -, hd, -, -, hc, -⟩ := h
  have hmis (size : AccessSize) : s.misaligned a size = t.misaligned a size := by simp only [State.misaligned, hc]
  simp only [memoryAccess, hp, hd, hmis]

variable {d : DecodedInstruction} (h1 : s.hasWritten d.rs1 = true) (h2 : s.hasWritten d.rs2 = true)
include h1 h2

theorem controlOf_eq_of_sameWhereWritten : controlOf s d = controlOf t d := by
  obtain ⟨-, -, -, -, -, -, hx⟩ := h
  simp only [controlOf, hx _ h1, hx _ h2]

theorem aluResult_eq_of_sameWhereWritten : aluResult s d = aluResult t d := by
  obtain ⟨hp, -, -, -, -, -, hx⟩ := h
  simp only [aluResult, operandA, operandB, hp, hx _ h1, hx _ h2]

theorem cycleAccess_eq_of_sameWhereWritten : cycleAccess s d = cycleAccess t d := by
  have ⟨_, _, _, _, _, _, hx⟩ := h
  rw [cycleAccess, cycleAccess, controlOf_eq_of_sameWhereWritten h h1 h2, aluResult_eq_of_sameWhereWritten h h1 h2, hx _ h2,
    memoryAccess_eq_of_sameWhereWritten h]

/-- A cycle whose source registers are written and whose access answers completes from both states, to states that again agree. -/
theorem datapathCycle_of_sameWhereWritten {ld : Word} {mem : Memory} (hacc : cycleAccess s d = .ok (ld, mem)) :
    ∃ s' t', datapathCycle s d = .next s' ∧ datapathCycle t d = .next t' ∧ s'.sameWhereWritten t' := by
  have hacc' : cycleAccess t d = .ok (ld, mem) := cycleAccess_eq_of_sameWhereWritten h h1 h2 ▸ hacc
  refine ⟨_, _, datapathCycle_of_access hacc, datapathCycle_of_access hacc', ?_⟩
  have hmem := sameWhereWritten_withDmem h mem
  have ⟨hp, _, _, _, hr, hc, _⟩ := h
  rw [cycleCommit, cycleCommit, controlOf_eq_of_sameWhereWritten h h1 h2, aluResult_eq_of_sameWhereWritten h h1 h2, hp, hr, hc]
  refine sameWhereWritten_jump ?_ _
  split
  · exact sameWhereWritten_setX hmem _ _
  · exact hmem

end

end Sys2Proof.Machine
end

section
/-! PROOFS. The statements of 10_state.md. -/

namespace Sys2Proof.Proofs

open Sys2Proof Sys2Proof.Machine Sys2Proof.Claims

/-- Settles O49: every clause but the PC's is any commit's, and the next PC is the boot address or one the decoder's even offsets give. -/
theorem everyStepKeepsTheInvariant : Obligations.EveryStepKeepsTheInvariant := by
  intro s t hs h
  obtain ⟨hcommit, hpc | ⟨w, hw⟩⟩ := step_eq_next h
  · exact hcommit.inv hs (hpc ▸ hs.boot_even)
  · exact hcommit.inv hs (exec_pc hw ▸ Shape.nextPc_even hs.pc_even (evenOffset_shape_decode w))

/-- Settles O52: a cycle with a meaning reads no register that is unwritten, so all the block computes from the two states is the same. -/
theorem unwrittenRegistersNeverMatter : Obligations.UnwrittenRegistersNeverMatter := by
  intro s t h hdef
  obtain ⟨w, hfetch, hmul, h1, h2, ld, mem, hacc⟩ := hdef.elim
  have hfetch' : t.fetch = some w := fetch_eq_of_sameWhereWritten h ▸ hfetch
  rw [step_eq_datapathStep, step_eq_datapathStep]
  unfold datapathStep
  rw [hfetch, hfetch']
  have ⟨_, _, _, _, hr, hc, _⟩ := h
  rw [← hr, ← hc]
  split_ifs with hedge
  · exact ⟨_, _, rfl, rfl, sameWhereWritten_jump h _⟩
  · simpa only [hmul, if_false] using datapathCycle_of_sameWhereWritten h h1 h2 hacc

/-- Settles O24: a completed instruction is one write to its destination, so the rules of `setX` say the rest. -/
theorem onlyTheDestinationRegisterChanges : Obligations.OnlyTheDestinationRegisterChanges := by
  intro i s t h
  obtain ⟨v, m, rfl⟩ := exec_eq_next h
  refine ⟨fun j hj => ?_, fun j hj => ?_⟩
  · have hne : ¬(j = (destination i).getD 0#5 ∧ (destination i).getD 0#5 ≠ 0#5) := by
      rintro ⟨rfl, h0⟩
      cases hd : destination i <;> simp_all
    simp [State.getX_setX, State.hasWritten_setX, hne]
  · by_cases h0 : j = 0#5 <;> simp [hj, State.hasWritten_setX, h0]

/-- Settles O26: the next PC of any other shape is PC + 4. -/
theorem onlyControlTransfersRedirectThePc : Obligations.OnlyControlTransfersRedirectThePc := by
  intro i s t hi h
  have hpc : t.pc = s.pc + 4#32 := (exec_pc h).trans (nextPc_of_not_controlTransfer hi s)
  exact ⟨hpc, fun hs => by rw [hpc, hs]; rfl⟩

/-- Settles O27: each shape commutes with replacing the inputs, and no commit changes them. -/
theorem instructionsIgnoreTheInputs : Obligations.InstructionsIgnoreTheInputs := by
  intro i s rst boot
  refine ⟨?_, fun t h => ⟨(exec_commits h).rst_eq, (exec_commits h).cfg_eq⟩⟩
  rw [exec_eq_run, exec_eq_run, Shape.run_withInputs]

/-- Settles O28: no commit reaches the stored register 0. -/
theorem registerZeroIsHardwired : Obligations.RegisterZeroIsHardwired :=
  ⟨fun s v => ⟨s.getX_zero, s.setX_zero v⟩, fun cfg imem dmem => by simp [State.launch],
    fun _ _ _ h => (exec_commits h).x_zero_eq, fun _ _ h => (step_eq_next h).1.x_zero_eq⟩

/-- Settles O40: in both cases the first instruction leaves the new value in `rd`, and the second reads it. -/
theorem nextInstructionReadsTheNewValue : Obligations.NextInstructionReadsTheNewValue := by
  intro rd rs1 rd2 imm imm2 s t hrd
  have next (v : Word) : Writes (.addi rd2 rd imm2) (s.setX rd v).advance rd2 (v + imm2.signExtend 32) := by
    simpa [hrd] using addi_writes rd2 rd imm2 (s.setX rd v).advance
  refine ⟨fun h => ?_, fun v h hv => ?_⟩
  · obtain rfl : _ = t := Host.Outcome.next.inj h
    exact next _
  · obtain rfl := lw_eq_next h hv
    exact next v

/-- Settles O46: both sides are read off the shape of the decoded instruction. -/
theorem writeEnableIsTheDestination : Obligations.WriteEnableIsTheDestination := by
  intro s w
  rw [decodeRecord_eq, destination_eq_dest]
  cases shape (decode w) <;> simp [Shape.record, Shape.dest, controlOf, controlTable, defaultRecord]

/-- Settles O36: only index 0 is marked at a launch. -/
theorem launchState : Obligations.LaunchState := by
  intro cfg imem dmem
  refine ⟨rfl, rfl, fun i => ?_, rfl, rfl, rfl, rfl⟩
  by_cases hi : i = 0#5
  · simp [hi]
  · have hn : 0 ≠ i.toNat := fun h => hi (BitVec.eq_of_toNat_eq h.symm)
    simp [State.hasWritten, State.launch, hi, Vector.getElem_set_ne _ _ hn]

end Sys2Proof.Proofs
end

section
/-! SUPPORT. A well-formed instruction decodes from its own word (R92 to R120). -/

namespace Sys2Proof

/-- Bits of a bit range are bits of the word. -/
theorem extractLsb'_extractLsb' {n l k j : Nat} (s : Nat) (w : BitVec n) (h : k + j ≤ l) :
    (w.extractLsb' s l).extractLsb' k j = w.extractLsb' (s + k) j := by
  refine BitVec.eq_of_getLsbD_eq fun i hi => ?_
  simp [hi, show k + i < l by omega, Nat.add_assoc]

/-! ### What the funct7 checks of R249, R310 and R353 exclude -/

theorem nonStandardFunct7.elim {f7 : BitVec 7} (h : nonStandardFunct7 f7 = true) : f7 ≠ 0b0000000#7 ∧ f7 ≠ 0b0000001#7 := by
  simpa [nonStandardFunct7] using h

theorem nonStandardFunct7Bit5Set.elim {f7 : BitVec 7} (h : nonStandardFunct7Bit5Set f7 = true) :
    f7[5] = true ∧ f7 ≠ 0b0000000#7 ∧ f7 ≠ 0b0000001#7 ∧ f7 ≠ 0b0100000#7 := by
  revert f7; decide

theorem nonStandardFunct7Bit5Clear.elim {f7 : BitVec 7} (h : nonStandardFunct7Bit5Clear f7 = true) :
    f7[5] = false ∧ f7 ≠ 0b0000000#7 ∧ f7 ≠ 0b0000001#7 ∧ f7 ≠ 0b0100000#7 := by
  revert f7; decide

theorem badShiftFunct7.elim {f7 : BitVec 7} (h : badShiftFunct7 f7 = true) :
    f7[5] = false ∧ f7 ≠ 0b0000000#7 ∧ f7 ≠ 0b0100000#7 := by
  revert f7; decide

/-! ### Fields that only some rows have -/

/-- The low bit of funct3, where R266's rows keep it. -/
theorem extractLsb'_12_1 (w : Word) : w.extractLsb' 12 1 = (fieldFunct3 w).extractLsb' 0 1 :=
  (extractLsb'_extractLsb' (k := 0) (j := 1) (l := 3) 12 w (by decide)).symm

/-- The high bit of funct3, where the rows of size code 11 keep it (R225, R283). -/
theorem extractLsb'_14_1 (w : Word) : w.extractLsb' 14 1 = (fieldFunct3 w).extractLsb' 2 1 :=
  (extractLsb'_extractLsb' (k := 2) (j := 1) (l := 3) 12 w (by decide)).symm

/-- FENCE's three fields are those of its 12-bit immediate (R330). -/
theorem decodeMiscMem_fence (fm pred succ : BitVec 4) (rs1 rd : RegIdx) :
    decodeMiscMem (packI (fm ++ pred ++ succ) rs1 0b000#3 rd 0b0001111#7) = .fence fm pred succ rs1 rd := by
  have field (k : Nat) (hk : k + 4 ≤ 12) (w : Word) : w.extractLsb' (20 + k) 4 = (fieldImmI w).extractLsb' k 4 :=
    (extractLsb'_extractLsb' 20 w hk).symm
  have hfm : (fm ++ pred ++ succ).extractLsb' 8 4 = fm :=
    (BitVec.extractLsb'_append_eq_of_le (by decide)).trans BitVec.extractLsb'_append_eq_left
  have hpred : (fm ++ pred ++ succ).extractLsb' 4 4 = pred :=
    (BitVec.extractLsb'_append_eq_of_le (by decide)).trans BitVec.extractLsb'_append_eq_right
  have hsucc : (fm ++ pred ++ succ).extractLsb' 0 4 = succ := BitVec.extractLsb'_append_eq_right
  simp [decodeMiscMem, field 0, field 4, field 8, hfm, hpred, hsucc]

/-! ### SYSTEM -/

/-- The SYSTEM words with a row of their own (R332, R333, R340 to R342). -/
def exactSystemWords : List Word := [0x00000073#32, 0x00100073#32, 0x30200073#32, 0x10200073#32, 0x10500073#32]

/-- Any other SYSTEM word of funct3 000 or 100 is SFENCE.VMA (R343) or has no row of its own (R344). -/
theorem decodeSystem_eq {w : Word} (h3 : fieldFunct3 w = 0b000#3 ∨ fieldFunct3 w = 0b100#3) (hw : w ∉ exactSystemWords) :
    decodeSystem w =
      if fieldFunct3 w = 0b000#3 ∧ fieldFunct7 w = 0b0001001#7 ∧ fieldRd w = 0b00000#5 then .sfenceVma (fieldRs1 w) (fieldRs2 w)
      else .systemOther (w.extractLsb' 7 25) := by
  simp only [exactSystemWords, List.mem_cons, List.not_mem_nil, or_false, not_or] at hw
  rcases h3 with h3 | h3 <;> simp [decodeSystem, h3, hw]

theorem decodeSystem_sfenceVma (rs1 rs2 : RegIdx) :
    decodeSystem (packFields 0b0001001#7 rs2 rs1 0b000#3 0b00000#5 0b1110011#7) = .sfenceVma rs1 rs2 := by
  have hw : packFields 0b0001001#7 rs2 rs1 0b000#3 0b00000#5 0b1110011#7 ∉ exactSystemWords := fun hmem =>
    have hne : ∀ c ∈ exactSystemWords, fieldFunct7 c ≠ 0b0001001#7 := by simp [exactSystemWords, fieldFunct7]
    hne _ hmem (fieldFunct7_packFields ..)
  simp [decodeSystem_eq _ hw]

theorem decodeSystem_systemOther {bits : BitVec 25} (h : otherSystemBits bits = true) :
    decodeSystem (bits ++ 0b1110011#7) = .systemOther bits := by
  have h3 : fieldFunct3 (bits ++ 0b1110011#7) = bits.extractLsb' 5 3 := BitVec.extractLsb'_append_eq_of_le (by decide)
  have h7 : fieldFunct7 (bits ++ 0b1110011#7) = bits.extractLsb' 18 7 := BitVec.extractLsb'_append_eq_of_le (by decide)
  have hd : fieldRd (bits ++ 0b1110011#7) = bits.extractLsb' 0 5 := BitVec.extractLsb'_append_eq_of_le (by decide)
  have hbits : (bits ++ 0b1110011#7).extractLsb' 7 25 = bits := BitVec.extractLsb'_append_eq_left
  have hw : bits ++ 0b1110011#7 ∉ exactSystemWords := fun hmem => by
    have hno : ∀ c ∈ exactSystemWords, otherSystemBits (c.extractLsb' 7 25) = false := by simp [exactSystemWords, otherSystemBits]
    simpa [hbits, h] using hno _ hmem
  have hcases : bits.extractLsb' 5 3 = 0b100#3 ∨
      bits.extractLsb' 5 3 = 0b000#3 ∧ ¬(bits.extractLsb' 18 7 = 0b0001001#7 ∧ bits.extractLsb' 0 5 = 0b00000#5) := by
    simp only [otherSystemBits, Bool.or_eq_true, Bool.and_eq_true, Bool.not_eq_true', beq_iff_eq] at h
    obtain h4 | ⟨⟨h0, -⟩, hvma⟩ := h
    · exact .inl h4
    · exact .inr ⟨h0, by simpa using hvma⟩
  rw [decodeSystem_eq (h3 ▸ hcases.symm.imp_left And.left) hw, h3, h7, hd, hbits]
  obtain h4 | ⟨h0, hvma⟩ := hcases
  · simp [h4]
  · exact if_neg fun hall => hvma hall.2

/-! ### The round trip -/

/-- A word of an opcode that no row covers, and that is neither FENCE nor FENCE.I (R354). -/
theorem decode_unrecognised {w : Word} (h : unrecognisedWord w = true) : decode w = .unrecognised w := by
  have hbits : (!coveredOpcodes.contains (fieldOpcode w) &&
      !(fieldOpcode w == 0b0001111#7 && (fieldFunct3 w == 0b000#3 || fieldFunct3 w == 0b001#3))) = true := h
  simp only [coveredOpcodes, List.contains_cons, List.contains_nil, Bool.and_eq_true, Bool.not_eq_true', Bool.or_eq_false_iff,
    Bool.and_eq_false_iff, beq_eq_false_iff_ne] at hbits
  obtain ⟨hcovered, hmisc⟩ := hbits
  by_cases hop : fieldOpcode w = 0b0001111#7
  · have hf3 := hmisc.resolve_left (not_not_intro hop)
    simp [decode, decodeMiscMem, hop, hf3]
  · simp [decode, hcovered, hop]

theorem decode_encode {i : Instr} (h : WellFormed i) : decode (encode i) = i := by
  cases i
  case lui | auipc => simp [encode, decode]
  case jal => simp [encode, decode, fieldImmJ_packJ h]
  case jalr => simp [encode, decode, decodeJalr]
  case jalrF3Nonzero f3 rd rs1 imm =>
    have hf3 : f3 ≠ 0b000#3 := by simpa [WellFormed, Instr.wf] using h
    simp [encode, decode, decodeJalr, hf3]
  case beq | bne | blt | bge | bltu | bgeu => simp [encode, decode, decodeBranch, fieldImmB_packB h]
  case branchF3_01x f3lo rs1 rs2 imm =>
    obtain rfl | rfl := f3lo.eq_zero_or_eq_one <;>
      simp [encode, decode, decodeBranch, extractLsb'_12_1, fieldImmB_packB h]
  case lb | lh | lw | lbu | lhu | loadWordF3_110 => simp [encode, decode, decodeLoad]
  case loadSize11 f3hi rd rs1 imm =>
    obtain rfl | rfl := f3hi.eq_zero_or_eq_one <;> simp [encode, decode, decodeLoad, extractLsb'_14_1]
  case sb | sh | sw | storeByteF3_100 | storeHalfF3_101 | storeWordF3_110 => simp [encode, decode, decodeStore]
  case storeSize11 f3hi rs1 rs2 imm =>
    obtain rfl | rfl := f3hi.eq_zero_or_eq_one <;> simp [encode, decode, decodeStore, extractLsb'_14_1]
  case addi | slti | sltiu | xori | ori | andi | slli => simp [encode, decode, decodeOpImm]
  case slliAnyFunct7 f7 rd rs1 shamt =>
    have hf7 : f7 ≠ 0b0000000#7 := by simpa [WellFormed, Instr.wf] using h
    simp [encode, decode, decodeOpImm, hf7]
  case srli | srai => simp [encode, decode, decodeOpImm, decodeShiftRightImm]
  case sraiAnyFunct7 => simp [encode, decode, decodeOpImm, decodeShiftRightImm, nonStandardFunct7Bit5Set.elim h]
  case srxiBadFunct7 => simp [encode, decode, decodeOpImm, decodeShiftRightImm, badShiftFunct7.elim h]
  case mul | mulh | mulhsu | mulhu | div | divu | rem | remu => simp [encode, decode, decodeOp, decodeOpMul]
  case add | sll | slt | sltu | xor | srl | or | and => simp [encode, decode, decodeOp, decodeOpZero]
  case sub | sra => simp [encode, decode, decodeOp, decodeOpOther, decodeOpByBit5]
  case opAddAnyFunct7 | opSrlAnyFunct7 =>
    simp [encode, decode, decodeOp, decodeOpOther, decodeOpByBit5, nonStandardFunct7Bit5Clear.elim h]
  case opSubAnyFunct7 | opSraAnyFunct7 =>
    simp [encode, decode, decodeOp, decodeOpOther, decodeOpByBit5, nonStandardFunct7Bit5Set.elim h]
  case opSllAnyFunct7 | opSltAnyFunct7 | opSltuAnyFunct7 | opXorAnyFunct7 | opOrAnyFunct7 | opAndAnyFunct7 =>
    simp [encode, decode, decodeOp, decodeOpOther, nonStandardFunct7.elim h]
  case fence => simp [encode, decode, decodeMiscMem_fence]
  case fenceI => simp [encode, decode, decodeMiscMem]
  case csrrw | csrrs | csrrc | csrrwi | csrrsi | csrrci => simp [encode, decode, decodeSystem]
  case ecall | ebreak | mret | sret | wfi => rfl
  case sfenceVma => simp [encode, decode, decodeSystem_sfenceVma]
  case systemOther => simp [encode, decode, decodeSystem_systemOther h]
  case unrecognised w => exact decode_unrecognised h

end Sys2Proof
end

section
/-! SUPPORT. The memory accesses: which instruction makes which access, where an access stops, and what a load reads back
(20_memory.md). -/

namespace Sys2Proof.Machine

open Sys2Proof.Claims

/-! ### Reads and writes of several bytes -/

/-- A byte with no value leaves the whole read with none (R62, R66). -/
theorem Memory.readLE_eq_none {m : Memory} {a : Word} {n k : Nat} (hn : n ≤ 4) (hk : k < n)
    (h : m.read (byteAddr a k).toNat = none) : m.readLE a n = none := by
  refine Option.eq_none_iff_forall_ne_some.mpr fun v hv => ?_
  obtain ⟨hbytes, -⟩ := (Memory.readLE_eq_some hn).mp hv
  simpa [h] using hbytes k hk

/-- Reading back what was written: the low `8 * n` bits (R66, R67). -/
theorem Memory.readLE_writeLE (m : Memory) (a v : Word) {n : Nat} (hn : n ≤ 4) :
    (m.writeLE a v n).readLE a n = some ((v.setWidth (8 * n)).setWidth 32) := by
  refine (Memory.readLE_eq_some hn).mpr ⟨fun k hk => ?_, fun i hi => ?_⟩
  · rw [Memory.read_writeLE_inside hk hn]
    congr 1
    refine BitVec.eq_of_getLsbD_eq fun i hi => ?_
    simp [hi, show 8 * k + i < 8 * n by omega, show 8 * k + i < 32 by omega]
  · simp [BitVec.getLsbD_setWidth, Nat.not_lt.mpr hi]

/-- Widening reads only the bits of the access (R68). -/
theorem widen_setWidth (size : AccessSize) (how : Widening) (v : Word) :
    widen size how ((v.setWidth (8 * size.bytes)).setWidth 32) = widen size how v := by
  cases size <;> cases how <;> simp [widen, AccessSize.bytes]

/-! ### The instructions that access memory, in the shared shapes of their meanings -/

theorem loadAccess_eq_some {i : Instr} {s : State} {a : Word} {n : Nat} (h : loadAccess i s = some (a, n)) :
    ∃ size how rd rs1 imm, exec i s = loadTo size how rd rs1 imm s ∧ a = s.effAddr rs1 (immI imm) ∧ n = size.bytes := by
  cases i <;> cases h <;> exact ⟨_, _, _, _, _, rfl, rfl, rfl⟩

theorem storeAccess_eq_some {i : Instr} {s : State} {a : Word} {n : Nat} (h : storeAccess i s = some (a, n)) :
    ∃ size rs1 rs2 imm, exec i s = storeFrom size rs1 rs2 imm s ∧ a = s.effAddr rs1 (immS imm) ∧ n = size.bytes := by
  cases i <;> cases h <;> exact ⟨_, _, _, _, rfl, rfl, rfl⟩

theorem wideAccess_eq_some {i : Instr} {s : State} {p : Word × Nat} (h : wideAccess i s = some p) :
    loadAccess i s = some p ∨ storeAccess i s = some p := by
  cases i <;> cases h
  case lh | lhu | lw | loadWordF3_110 => exact .inl rfl
  case sh | sw | storeHalfF3_101 | storeWordF3_110 => exact .inr rfl

/-! ### Where an access stops -/

theorem State.misaligned_eq_true {s : State} {a : Word} {size : AccessSize} :
    s.misaligned a size = true ↔ s.cfg.misalignedData = .fault ∧ a.toNat % size.bytes ≠ 0 := by
  simp [State.misaligned]

theorem loadTo_of_misaligned {size : AccessSize} {how : Widening} {rd rs1 : RegIdx} {imm : BitVec 12} {s : State}
    (h : s.misaligned (s.effAddr rs1 (immI imm)) size = true) :
    loadTo size how rd rs1 imm s = .fault (.misalignedData (s.effAddr rs1 (immI imm))) := if_pos h

theorem storeFrom_of_misaligned {size : AccessSize} {rs1 rs2 : RegIdx} {imm : BitVec 12} {s : State}
    (h : s.misaligned (s.effAddr rs1 (immS imm)) size = true) :
    storeFrom size rs1 rs2 imm s = .fault (.misalignedData (s.effAddr rs1 (immS imm))) := if_pos h

theorem loadTo_of_uninitialised {size : AccessSize} {how : Widening} {rd rs1 : RegIdx} {imm : BitVec 12} {s : State}
    (hacc : s.misaligned (s.effAddr rs1 (immI imm)) size = false)
    (hread : s.dmem.readLE (s.effAddr rs1 (immI imm)) size.bytes = none) :
    loadTo size how rd rs1 imm s = .fault (.uninitialisedMemory (s.effAddr rs1 (immI imm))) := by
  simp [loadTo, hacc, hread]

/-- The fetch has no word at a misaligned PC, nor where a byte of the word is not in the image (R62). -/
theorem State.fetch_eq_none {s : State} (h : s.pc.toNat % 4 ≠ 0 ∨ ∃ k < 4, s.imem.read (byteAddr s.pc k).toNat = none) :
    s.fetch = none := by
  unfold State.fetch
  split_ifs with hpc
  · obtain ⟨k, hk, hbyte⟩ := h.resolve_left (not_not_intro hpc)
    exact Memory.readLE_eq_none (by decide) hk hbyte
  · rfl

theorem runCycle_of_no_fetch {s : State} (h : s.fetch = none) : runCycle s = .fault (.fetchUndefined s.pc) := by
  rw [runCycle, h]

/-! ### A load after a store -/

/-- A load of the same size from the same address completes with what the store stored, widened (R77). -/
theorem loadTo_of_storeFrom {size : AccessSize} {rs1 rs2 : RegIdx} {imm : BitVec 12} {s t : State}
    (h : storeFrom size rs1 rs2 imm s = .next t) (how : Widening) (rd : RegIdx) :
    loadTo size how rd rs1 imm t = .next ((t.setX rd (widen size how (s.getX rs2))).jump (t.pc + 4#32)) := by
  obtain ⟨hacc, rfl⟩ := storeFrom_eq_next.mp h
  refine loadTo_eq_next.mpr ⟨hacc, _, Memory.readLE_writeLE _ _ _ size.bytes_le, ?_⟩
  rw [widen_setWidth]
  exact (Host.Outcome.next.inj (writeAndAdvance_eq rd _ _)).symm

end Sys2Proof.Machine
end

section
/-! SUPPORT. Which bytes of data memory a cycle, an instruction, a step and a run may change (R67, R69, R80). -/

namespace Sys2Proof.Machine

open Sys2Proof.Claims

/-- The bytes the block stores to are those of the instruction's store access (R69). -/
theorem storedBytes_record (i : Instr) (s : State) :
    storedBytes s (shape i).record = (storeAccess i s).elim [] fun p => accessBytes p.1 p.2 := by
  cases i <;> rfl

/-- What a data access that answers does to memory: a store writes its bytes, nothing else writes (R65 to R69). -/
theorem memoryAccess_eq_ok {s : State} {op : MemOp} {mode : BitVec 3} {a v ld : Word} {mem : Memory}
    (h : memoryAccess s op mode a v = .ok (ld, mem)) :
    mem = s.dmem ∨ op = .store ∧ ∃ size, sizeOfMode mode = some size ∧ mem = s.dmem.writeLE a v size.bytes := by
  cases op with
  | none => cases h; exact .inl rfl
  | load =>
    simp only [memoryAccess] at h
    repeat' split at h
    all_goals cases h
    exact .inl rfl
  | store =>
    simp only [memoryAccess] at h
    repeat' split at h
    all_goals cases h
    exact .inr ⟨rfl, _, ‹_›, rfl⟩

theorem cycleCommit_dmem (s : State) (d : DecodedInstruction) (ld : Word) (mem : Memory) (pc : Word) :
    (cycleCommit s d ld mem pc).dmem = mem := by
  unfold cycleCommit; split <;> simp

/-- A cycle leaves every byte of data memory that it does not store to as it was. -/
theorem datapathCycle_dmem_read {s t : State} {d : DecodedInstruction} (h : datapathCycle s d = .next t) {b : Nat}
    (hb : ∀ a ∈ storedBytes s d, b ≠ a.toNat) : t.dmem.read b = s.dmem.read b := by
  cases hacc : cycleAccess s d with
  | error f => simp [datapathCycle_of_error hacc] at h
  | ok p =>
    obtain ⟨ld, mem⟩ := p
    obtain rfl := Host.Outcome.next.inj ((datapathCycle_of_access hacc).symm.trans h)
    rw [cycleCommit_dmem]
    obtain rfl | ⟨hop, size, hsize, rfl⟩ := memoryAccess_eq_ok hacc
    · rfl
    · have hstored : storedBytes s d = accessBytes (aluResult s d) size.bytes := by simp only [storedBytes, hop, hsize]
      exact Memory.read_writeLE_outside fun k hk => hb _ (hstored ▸ List.mem_map_of_mem (List.mem_range.mpr hk))

theorem State.atEdge_dmem (s u : State) : (s.atEdge u).dmem = u.dmem := by
  unfold State.atEdge; split <;> rfl

/-- An instruction that completes leaves every byte that its record does not store to as it was: its cycle does. -/
theorem exec_dmem_read {i : Instr} {s t : State} (h : exec i s = .next t) {b : Nat}
    (hb : ∀ a ∈ storedBytes s (shape i).record, b ≠ a.toNat) : t.dmem.read b = s.dmem.read b := by
  rw [exec_eq_run] at h
  have hmul : shape i = .mul → s.cfg.opFunct701 = .noop := by
    intro hm
    cases hc : s.cfg.opFunct701 with
    | noop => rfl
    | refuse => simp [hm, Shape.run, opFunct701, hc] at h
  have hcycle : datapathCycle s (shape i).record = .next (s.atEdge t) := by rw [datapathCycle_record s _ hmul, h, mapNext]
  rw [← datapathCycle_dmem_read hcycle hb, State.atEdge_dmem]

/-- A step leaves every byte of data memory that it does not store to as it was. -/
theorem step_dmem_read {s t : State} (h : step s = .next t) {b : Nat} (hb : ∀ a ∈ stepStores s, b ≠ a.toNat) :
    t.dmem.read b = s.dmem.read b := by
  rw [step_eq_datapathStep, datapathStep] at h
  split_ifs at h
  · cases h
    rfl
  · cases hf : s.fetch with
    | none => simp [hf] at h
    | some w =>
      simp only [hf] at h
      split_ifs at h
      exact datapathCycle_dmem_read h (by simpa [stepStores, hf] using hb)

/-! ### Runs without a store to a byte that is fetched (R80) -/

/-- A step that stores to none of the addresses `A` keeps data memory and the image alike there. -/
theorem step_unifiedOn {s t : State} {A : List Word} (h : step s = .next t) (hstores : ∀ a ∈ stepStores s, a ∉ A)
    (hs : s.unifiedOn A) : t.unifiedOn A := by
  intro b hb
  have hne : ∀ a ∈ stepStores s, b.toNat ≠ a.toNat := by
    intro a ha heq
    exact hstores a ha (BitVec.eq_of_toNat_eq heq ▸ hb)
  rw [step_dmem_read h hne, (step_eq_next h).1.imem_eq]
  exact hs b hb

/-- Every state of a run that stores to none of the addresses `A` has data memory and the image alike there, if the first one has. -/
theorem runStates_unifiedOn {n : Nat} {s : State} {A : List Word} (hstores : ∀ u ∈ runStates n s, ∀ a ∈ stepStores u, a ∉ A)
    (hs : s.unifiedOn A) : ∀ u ∈ runStates n s, u.unifiedOn A := by
  induction n generalizing s with
  | zero => simpa [runStates] using hs
  | succ n ih =>
    cases hstep : step s with
    | next t =>
      simp only [runStates, hstep, List.forall_mem_cons] at hstores ⊢
      obtain ⟨hfirst, hrest⟩ := hstores
      exact ⟨hs, ih hrest (step_unifiedOn hstep hfirst hs)⟩
    | fault f => simpa [runStates, hstep] using hs
    | refused r => simpa [runStates, hstep] using hs

end Sys2Proof.Machine
end

section
/-! PROOFS. The statements of 20_memory.md. -/

namespace Sys2Proof.Proofs

open Sys2Proof Sys2Proof.Machine Sys2Proof.Claims

/-- Settles O53: no store of the run reaches a word it fetches, so that word's bytes stay alike in the two memories all along the run. -/
theorem noSelfModifyMakesUnifiedMemoryExact : Obligations.NoSelfModifyMakesUnifiedMemoryExact := by
  intro n s hno hs u hu v hv
  exact runStates_unifiedOn (fun t ht => hno t ht v hv) (hs v hv) u hu

/-- Settles O25: the bytes an instruction can change are those of its store access. -/
theorem onlyStoresChangeMemory : Obligations.OnlyStoresChangeMemory := by
  intro i s t h
  have hframe := @exec_dmem_read i s t h
  rw [storedBytes_record] at hframe
  refine ⟨fun hnone b => hframe (by simp [hnone]), fun a n hsome b hb => hframe ?_, (exec_commits h).imem_eq⟩
  rw [hsome]
  exact List.forall_mem_map.mpr fun k hk => hb k (List.mem_range.mp hk)

/-- Settles O30: the access is a load's or a store's, and either checks alignment first. -/
theorem misalignedAccessFaults : Obligations.MisalignedAccessFaults := by
  intro i s a n h hcfg hmod
  obtain hload | hstore := wideAccess_eq_some h
  · obtain ⟨size, how, rd, rs1, imm, hexec, rfl, rfl⟩ := loadAccess_eq_some hload
    exact hexec.trans (loadTo_of_misaligned (State.misaligned_eq_true.mpr ⟨hcfg, hmod⟩))
  · obtain ⟨size, rs1, rs2, imm, hexec, rfl, rfl⟩ := storeAccess_eq_some hstore
    exact hexec.trans (storeFrom_of_misaligned (State.misaligned_eq_true.mpr ⟨hcfg, hmod⟩))

/-- Settles O31: one byte without a value leaves the read of the whole access without one. -/
theorem uninitialisedLoadFaults : Obligations.UninitialisedLoadFaults := by
  intro i s a n k h hacc hk hbyte
  obtain ⟨size, how, rd, rs1, imm, hexec, rfl, rfl⟩ := loadAccess_eq_some h
  exact hexec.trans (loadTo_of_uninitialised (State.misaligned_eq_false.mpr hacc) (Memory.readLE_eq_none size.bytes_le hk hbyte))

/-- Settles O33: the fetch answers no word in either case. -/
theorem fetchOutsideTheImageFaults : Obligations.FetchOutsideTheImageFaults := by
  intro s hrst h
  rw [step_of_not_rst hrst, runCycle_of_no_fetch (State.fetch_eq_none h)]

/-- Settles O39: the load reads back the bytes stored. -/
theorem loadReturnsTheLastStore : Obligations.LoadReturnsTheLastStore := fun rd _ _ _ _ _ =>
  ⟨fun h => loadTo_of_storeFrom h .sign rd, fun h => ⟨loadTo_of_storeFrom h .sign rd, loadTo_of_storeFrom h .zero rd⟩,
    fun h => ⟨loadTo_of_storeFrom h .sign rd, loadTo_of_storeFrom h .zero rd⟩⟩

/-- Settles O32: the image's bytes make the instruction's own word, and that decodes to the instruction. -/
theorem stepRunsTheFetchedInstruction : Obligations.StepRunsTheFetchedInstruction := by
  intro s i hrst hpc hwf hbytes
  have hfetch : s.fetch = some (encode i) :=
    State.fetch_eq_some.mpr ⟨hpc, (Memory.readLE_eq_some (by decide)).mpr ⟨hbytes, fun _ hi => BitVec.getLsbD_of_ge _ _ hi⟩⟩
  rw [step_of_not_rst hrst, runCycle_of_fetch hfetch, decode_encode hwf]

end Sys2Proof.Proofs
end

section
/-! SUPPORT. The case analyses of the decoder, once (R99, R116, R119, R310), and words put together from the fields a case knows. -/

namespace Sys2Proof

section
variable {w : Word}

/-! ### The cases of the decoder -/

/-- The decoder's cases are its opcodes (R99). -/
theorem decode_cases (P : Instr → Prop)
    (lui : fieldOpcode w = 0b0110111#7 → P (.lui (fieldRd w) (fieldImmU w)))
    (auipc : fieldOpcode w = 0b0010111#7 → P (.auipc (fieldRd w) (fieldImmU w)))
    (jal : fieldOpcode w = 0b1101111#7 → P (.jal (fieldRd w) (fieldImmJ w)))
    (jalr : fieldOpcode w = 0b1100111#7 → P (decodeJalr w))
    (load : fieldOpcode w = 0b0000011#7 → P (decodeLoad w))
    (opImm : fieldOpcode w = 0b0010011#7 → P (decodeOpImm w))
    (branch : fieldOpcode w = 0b1100011#7 → P (decodeBranch w))
    (store : fieldOpcode w = 0b0100011#7 → P (decodeStore w))
    (op : fieldOpcode w = 0b0110011#7 → P (decodeOp w))
    (miscMem : fieldOpcode w = 0b0001111#7 → P (decodeMiscMem w))
    (system : fieldOpcode w = 0b1110011#7 → P (decodeSystem w))
    (rest : fieldOpcode w ∉ coveredOpcodes → fieldOpcode w ≠ 0b0001111#7 → P (.unrecognised w)) : P (decode w) :=
  iteInduction lui fun _ => iteInduction auipc fun _ => iteInduction jal fun _ => iteInduction jalr fun _ =>
  iteInduction load fun _ => iteInduction opImm fun _ => iteInduction branch fun _ => iteInduction store fun _ =>
  iteInduction op fun _ => iteInduction miscMem fun hmisc => iteInduction system fun _ =>
  rest (by simp [coveredOpcodes, *]) hmisc

/-- OP-IMM with funct3 101: by funct7 (R116, R353). -/
theorem decodeShiftRightImm_cases (P : Instr → Prop)
    (srli : fieldFunct7 w = 0b0000000#7 → P (.srli (fieldRd w) (fieldRs1 w) (fieldRs2 w)))
    (srai : fieldFunct7 w = 0b0100000#7 → P (.srai (fieldRd w) (fieldRs1 w) (fieldRs2 w)))
    (one : nonStandardFunct7Bit5Set (fieldFunct7 w) = true →
      P (.sraiAnyFunct7 (fieldFunct7 w) (fieldRd w) (fieldRs1 w) (fieldRs2 w)))
    (zero : badShiftFunct7 (fieldFunct7 w) = true →
      P (.srxiBadFunct7 (fieldFunct7 w) (fieldRd w) (fieldRs1 w) (fieldRs2 w))) : P (decodeShiftRightImm w) :=
  iteInduction srli fun h0 => iteInduction srai fun h32 =>
  iteInduction (fun h5 => one (by simpa [nonStandardFunct7Bit5Set, h32] using h5))
    fun h5 => zero (by simpa [badShiftFunct7, h0] using h5)

/-- OP with funct3 000 or 101 and a funct7 that is not 0000000 or 0000001: by funct7 (R310). -/
theorem decodeOpByBit5_cases (P : Instr → Prop) {std : RegIdx → RegIdx → RegIdx → Instr}
    {one zero : BitVec 7 → RegIdx → RegIdx → RegIdx → Instr} (h7 : nonStandardFunct7 (fieldFunct7 w) = true)
    (hstd : fieldFunct7 w = 0b0100000#7 → P (std (fieldRd w) (fieldRs1 w) (fieldRs2 w)))
    (hone : nonStandardFunct7Bit5Set (fieldFunct7 w) = true → P (one (fieldFunct7 w) (fieldRd w) (fieldRs1 w) (fieldRs2 w)))
    (hzero : nonStandardFunct7Bit5Clear (fieldFunct7 w) = true → P (zero (fieldFunct7 w) (fieldRd w) (fieldRs1 w) (fieldRs2 w))) :
    P (decodeOpByBit5 w std one zero) :=
  iteInduction hstd fun h32 =>
  iteInduction (fun h5 => hone (by simpa [nonStandardFunct7Bit5Set, h32] using h5))
    fun h5 => hzero (by simpa [nonStandardFunct7Bit5Clear, h7] using h5)

/-- OP: by funct7 (R119). -/
theorem decodeOp_cases (P : Instr → Prop) (mul : fieldFunct7 w = 0b0000001#7 → P (decodeOpMul w))
    (std : fieldFunct7 w = 0b0000000#7 → P (decodeOpZero w))
    (other : nonStandardFunct7 (fieldFunct7 w) = true → P (decodeOpOther w)) : P (decodeOp w) :=
  iteInduction mul fun h1 => iteInduction std fun h0 => other (by simp [nonStandardFunct7, h0, h1])

theorem csr_funct3_of_ne : ∀ f : BitVec 3, ¬(f = 0b000#3 ∨ f = 0b100#3) →
    f = 0b001#3 ∨ f = 0b010#3 ∨ f = 0b011#3 ∨ f = 0b101#3 ∨ f = 0b110#3 ∨ f = 0b111#3 := by decide

/-- SYSTEM: a word with a row of its own, SFENCE.VMA or a word without a row of its own, or a CSR instruction by funct3 (R332 to R344). -/
theorem decodeSystem_cases (P : Instr → Prop) (named : w ∈ exactSystemWords → P (decodeSystem w))
    (vma : w ∉ exactSystemWords → fieldFunct3 w = 0b000#3 → fieldFunct7 w = 0b0001001#7 → fieldRd w = 0b00000#5 →
      P (.sfenceVma (fieldRs1 w) (fieldRs2 w)))
    (other : w ∉ exactSystemWords → fieldFunct3 w = 0b000#3 ∨ fieldFunct3 w = 0b100#3 →
      ¬(fieldFunct3 w = 0b000#3 ∧ fieldFunct7 w = 0b0001001#7 ∧ fieldRd w = 0b00000#5) → P (.systemOther (w.extractLsb' 7 25)))
    (csr : w ∉ exactSystemWords → fieldFunct3 w = 0b001#3 ∨ fieldFunct3 w = 0b010#3 ∨ fieldFunct3 w = 0b011#3 ∨
      fieldFunct3 w = 0b101#3 ∨ fieldFunct3 w = 0b110#3 ∨ fieldFunct3 w = 0b111#3 → P (decodeSystem w)) : P (decodeSystem w) := by
  by_cases hw : w ∈ exactSystemWords
  · exact named hw
  by_cases h3 : fieldFunct3 w = 0b000#3 ∨ fieldFunct3 w = 0b100#3
  · rw [decodeSystem_eq h3 hw]
    exact iteInduction (fun ⟨h0, h7, hd⟩ => vma hw h0 h7 hd) (other hw h3)
  · exact csr hw (csr_funct3_of_ne _ h3)

theorem unrecognisedWord_iff : unrecognisedWord w = true ↔
    fieldOpcode w ∉ coveredOpcodes ∧ (fieldOpcode w = 0b0001111#7 → fieldFunct3 w ≠ 0b000#3 ∧ fieldFunct3 w ≠ 0b001#3) := by
  show (!coveredOpcodes.contains (fieldOpcode w) &&
      !(fieldOpcode w == 0b0001111#7 && (fieldFunct3 w == 0b000#3 || fieldFunct3 w == 0b001#3))) = true ↔ _
  simp [imp_iff_not_or]

end

/-! ### A packed word, from what is known of its fields -/

section
variable {w : Word} {f7 : BitVec 7} {rs2 rs1 : RegIdx} {f3 : BitVec 3} {rd : RegIdx} {op : BitVec 7}

@[simp] theorem packFields_eq_iff : packFields f7 rs2 rs1 f3 rd op = w ↔ f7 = fieldFunct7 w ∧ rs2 = fieldRs2 w ∧ rs1 = fieldRs1 w ∧
    f3 = fieldFunct3 w ∧ rd = fieldRd w ∧ op = fieldOpcode w := by
  constructor
  · rintro rfl; simp
  · rintro ⟨rfl, rfl, rfl, rfl, rfl, rfl⟩; exact packFields_fields w

theorem packI_eq_word (h3 : fieldFunct3 w = f3) (hop : fieldOpcode w = op) :
    packI (fieldImmI w) (fieldRs1 w) f3 (fieldRd w) op = w := by
  subst h3 hop; exact packI_fields w

theorem packS_eq_word (h3 : fieldFunct3 w = f3) (hop : fieldOpcode w = op) :
    packS (fieldImmS w) (fieldRs2 w) (fieldRs1 w) f3 op = w := by
  subst h3 hop; exact packS_fields w

theorem packB_eq_word (h3 : fieldFunct3 w = f3) (hop : fieldOpcode w = op) :
    packB (fieldImmB w) (fieldRs2 w) (fieldRs1 w) f3 op = w := by
  subst h3 hop; exact packB_fields w

theorem packU_eq_word (hop : fieldOpcode w = op) : packU (fieldImmU w) (fieldRd w) op = w := by
  subst hop; exact packU_fields w

theorem packJ_eq_word (hop : fieldOpcode w = op) : packJ (fieldImmJ w) (fieldRd w) op = w := by
  subst hop; exact packJ_fields w

end

end Sys2Proof
end

section
/-! SUPPORT. Every word is the word of the instruction it decodes to, which is well formed (R121, R123). -/

namespace Sys2Proof

open Machine

/-- The instruction is well formed and `w` is its word. -/
def Instr.HasWord (i : Instr) (w : Word) : Prop := i.wf = true ∧ encode i = w

section
variable {w : Word}

theorem decodeJalr_hasWord (hop : fieldOpcode w = 0b1100111#7) : (decodeJalr w).HasWord w := by
  unfold decodeJalr
  split <;> simp_all [Instr.HasWord, Instr.wf, encode, packI_eq_word]

theorem decodeBranch_hasWord (hop : fieldOpcode w = 0b1100011#7) : (decodeBranch w).HasWord w := by
  have h01 := append_01_eq_fieldFunct3 w
  rcases funct3_cases (fieldFunct3 w) with h | h | h | h | h | h | h | h <;>
    simp_all [decodeBranch, Instr.HasWord, Instr.wf, evenOffset_fieldImmB, encode, packB_eq_word]

theorem decodeLoad_hasWord (hop : fieldOpcode w = 0b0000011#7) : (decodeLoad w).HasWord w := by
  have h11 := append_11_eq_fieldFunct3 w
  rcases funct3_cases (fieldFunct3 w) with h | h | h | h | h | h | h | h <;>
    simp_all [decodeLoad, Instr.HasWord, Instr.wf, encode, packI_eq_word]

theorem decodeStore_hasWord (hop : fieldOpcode w = 0b0100011#7) : (decodeStore w).HasWord w := by
  have h11 := append_11_eq_fieldFunct3 w
  rcases funct3_cases (fieldFunct3 w) with h | h | h | h | h | h | h | h <;>
    simp_all [decodeStore, Instr.HasWord, Instr.wf, encode, packS_eq_word]

theorem decodeShiftRightImm_hasWord (hop : fieldOpcode w = 0b0010011#7) (h3 : fieldFunct3 w = 0b101#3) :
    (decodeShiftRightImm w).HasWord w := by
  apply decodeShiftRightImm_cases (Instr.HasWord · w) <;> intro h7 <;> simp [Instr.HasWord, Instr.wf, encode, h3, h7, hop]

theorem decodeOpImm_hasWord (hop : fieldOpcode w = 0b0010011#7) : (decodeOpImm w).HasWord w := by
  rcases funct3_cases (fieldFunct3 w) with h | h | h | h | h | h | h | h
  case inr.inl =>
    by_cases h7 : fieldFunct7 w = 0b0000000#7 <;> simp [decodeOpImm, h, h7, hop, Instr.HasWord, Instr.wf, encode]
  case inr.inr.inr.inr.inr.inl => simpa [decodeOpImm, h] using decodeShiftRightImm_hasWord hop h
  all_goals simp [decodeOpImm, h, hop, Instr.HasWord, Instr.wf, encode, packI_eq_word]

theorem decodeOpMul_hasWord (hop : fieldOpcode w = 0b0110011#7) (h7 : fieldFunct7 w = 0b0000001#7) :
    (decodeOpMul w).HasWord w := by
  rcases funct3_cases (fieldFunct3 w) with h | h | h | h | h | h | h | h <;>
    simp [decodeOpMul, h, h7, hop, Instr.HasWord, Instr.wf, encode]

theorem decodeOpZero_hasWord (hop : fieldOpcode w = 0b0110011#7) (h7 : fieldFunct7 w = 0b0000000#7) :
    (decodeOpZero w).HasWord w := by
  rcases funct3_cases (fieldFunct3 w) with h | h | h | h | h | h | h | h <;>
    simp [decodeOpZero, h, h7, hop, Instr.HasWord, Instr.wf, encode]

theorem decodeOpOther_hasWord (hop : fieldOpcode w = 0b0110011#7) (h7 : nonStandardFunct7 (fieldFunct7 w) = true) :
    (decodeOpOther w).HasWord w := by
  unfold decodeOpOther
  rcases funct3_cases (fieldFunct3 w) with h | h | h | h | h | h | h | h
  case inl | inr.inr.inr.inr.inr.inl =>
    simp only [h, reduceIte, BitVec.reduceEq]
    apply decodeOpByBit5_cases (Instr.HasWord · w) h7 <;> intro h5 <;> simp [h, h5, hop, Instr.HasWord, Instr.wf, encode]
  all_goals simp [h, h7, hop, Instr.HasWord, Instr.wf, encode]

theorem decodeMiscMem_hasWord (hop : fieldOpcode w = 0b0001111#7) : (decodeMiscMem w).HasWord w := by
  have himm : w.extractLsb' 28 4 ++ w.extractLsb' 24 4 ++ w.extractLsb' 20 4 = fieldImmI w := by
    rw [BitVec.extractLsb'_append_extractLsb'_eq_extractLsb' (by decide),
      BitVec.extractLsb'_append_extractLsb'_eq_extractLsb' (by decide), fieldImmI]
  unfold decodeMiscMem
  split_ifs with h0 h1
  · exact ⟨rfl, by rw [encode, himm, packI_eq_word h0 hop]⟩
  · exact ⟨rfl, packI_eq_word h1 hop⟩
  · exact ⟨unrecognisedWord_iff.mpr ⟨by simp [hop, coveredOpcodes], fun _ => ⟨h0, h1⟩⟩, rfl⟩

/-- The bits above a SYSTEM word's opcode give the word back. -/
theorem append_system_opcode (hop : fieldOpcode w = 0b1110011#7) : w.extractLsb' 7 25 ++ 0b1110011#7 = w := by
  rw [← hop]
  exact (BitVec.extractLsb'_append_extractLsb'_eq_extractLsb' (by decide)).trans BitVec.extractLsb'_eq_self

theorem otherSystemBits_of_not_mem (hop : fieldOpcode w = 0b1110011#7) (h3 : fieldFunct3 w = 0b000#3 ∨ fieldFunct3 w = 0b100#3)
    (hw : w ∉ exactSystemWords)
    (hvma : ¬(fieldFunct3 w = 0b000#3 ∧ fieldFunct7 w = 0b0001001#7 ∧ fieldRd w = 0b00000#5)) :
    otherSystemBits (w.extractLsb' 7 25) = true := by
  have e3 : (w.extractLsb' 7 25).extractLsb' 5 3 = fieldFunct3 w := extractLsb'_extractLsb' 7 w (by decide)
  have e7 : (w.extractLsb' 7 25).extractLsb' 18 7 = fieldFunct7 w := extractLsb'_extractLsb' 7 w (by decide)
  have ed : (w.extractLsb' 7 25).extractLsb' 0 5 = fieldRd w := extractLsb'_extractLsb' 7 w (by decide)
  have hbits : ∀ b ∈ [0x0000000#25, 0x0002000#25, 0x0604000#25, 0x0204000#25, 0x020A000#25], w.extractLsb' 7 25 ≠ b := by
    rintro b hb rfl
    have happ : ∀ b ∈ [0x0000000#25, 0x0002000#25, 0x0604000#25, 0x0204000#25, 0x020A000#25],
        b ++ 0b1110011#7 ∈ exactSystemWords := by simp [exactSystemWords]
    exact hw (append_system_opcode hop ▸ happ _ hb)
  rw [otherSystemBits, e3, e7, ed]
  rcases h3 with h3 | h3
  · have hvma : fieldFunct7 w = 0b0001001#7 → fieldRd w ≠ 0b00000#5 := fun h7 hd => hvma ⟨h3, h7, hd⟩
    simpa [h3, ← imp_iff_not_or] using And.intro hbits hvma
  · simp [h3]

theorem decodeSystem_hasWord (hop : fieldOpcode w = 0b1110011#7) : (decodeSystem w).HasWord w := by
  apply decodeSystem_cases (Instr.HasWord · w)
  case named =>
    have hexact : ∀ c ∈ exactSystemWords, (decodeSystem c).HasWord c := by
      simp only [exactSystemWords, List.forall_mem_cons]
      exact ⟨⟨rfl, rfl⟩, ⟨rfl, rfl⟩, ⟨rfl, rfl⟩, ⟨rfl, rfl⟩, ⟨rfl, rfl⟩, List.forall_mem_nil _⟩
    exact hexact w
  case vma => intro _ h3 h7 hd; simp [Instr.HasWord, Instr.wf, encode, h3, h7, hd, hop]
  case other => exact fun hw h3 hvma => ⟨otherSystemBits_of_not_mem hop h3 hw hvma, append_system_opcode hop⟩
  case csr =>
    rintro _ (h | h | h | h | h | h) <;>
      simp [decodeSystem, h, hop, Instr.HasWord, Instr.wf, encode, packI_eq_word]

end

theorem decode_hasWord (w : Word) : (decode w).HasWord w := by
  apply decode_cases (Instr.HasWord · w)
  case lui | auipc => exact fun hop => ⟨rfl, packU_eq_word hop⟩
  case jal => exact fun hop => ⟨evenOffset_fieldImmJ w, packJ_eq_word hop⟩
  case jalr => exact decodeJalr_hasWord
  case load => exact decodeLoad_hasWord
  case opImm => exact decodeOpImm_hasWord
  case branch => exact decodeBranch_hasWord
  case store => exact decodeStore_hasWord
  case op =>
    exact fun hop => decodeOp_cases (Instr.HasWord · w) (decodeOpMul_hasWord hop) (decodeOpZero_hasWord hop) (decodeOpOther_hasWord hop)
  case miscMem => exact decodeMiscMem_hasWord
  case system => exact decodeSystem_hasWord
  case rest => exact fun hcov hmisc => ⟨unrecognisedWord_iff.mpr ⟨hcov, fun h => absurd h hmisc⟩, rfl⟩

end Sys2Proof
end

section
/-! SUPPORT. The opcode table's first match (R129), opcode by opcode, is the decoder's instruction. -/

namespace Sys2Proof

open Machine

/-! ### The fields of a literal word

`simp` evaluates the fields of the table's words with these, and leaves those of any other word alone. -/

section
variable (n : Nat)

@[simp] theorem fieldFunct7_ofNat : fieldFunct7 (BitVec.ofNat 32 n) = (BitVec.ofNat 32 n).extractLsb' 25 7 := rfl
@[simp] theorem fieldRs2_ofNat : fieldRs2 (BitVec.ofNat 32 n) = (BitVec.ofNat 32 n).extractLsb' 20 5 := rfl
@[simp] theorem fieldRs1_ofNat : fieldRs1 (BitVec.ofNat 32 n) = (BitVec.ofNat 32 n).extractLsb' 15 5 := rfl
@[simp] theorem fieldFunct3_ofNat : fieldFunct3 (BitVec.ofNat 32 n) = (BitVec.ofNat 32 n).extractLsb' 12 3 := rfl
@[simp] theorem fieldRd_ofNat : fieldRd (BitVec.ofNat 32 n) = (BitVec.ofNat 32 n).extractLsb' 7 5 := rfl
@[simp] theorem fieldOpcode_ofNat : fieldOpcode (BitVec.ofNat 32 n) = (BitVec.ofNat 32 n).extractLsb' 0 7 := rfl

end

/-! ### The rows of one opcode -/

/-- The rows that a word of opcode `op` can match. -/
def rowsOfOpcode (op : BitVec 7) : List TableRow := opcodeTable.filter fun r => op &&& fieldOpcode r.mask == fieldOpcode r.bits

theorem fieldOpcode_of_matches {r : TableRow} {w : Word} (h : r.matches w = true) :
    fieldOpcode w &&& fieldOpcode r.mask = fieldOpcode r.bits := by
  have hbits : w &&& r.mask = r.bits := by simpa [TableRow.matches] using h
  simp [← hbits, fieldOpcode, BitVec.extractLsb'_and]

theorem tableLookup_eq_find_rowsOfOpcode (w : Word) : tableLookup w = (rowsOfOpcode (fieldOpcode w)).find? (·.matches w) := by
  rw [rowsOfOpcode, List.find?_filter, tableLookup]
  congr 1
  funext r
  cases h : r.matches w
  · simp
  · simp [fieldOpcode_of_matches h]

theorem rowsOfOpcode_lui : rowsOfOpcode 0b0110111#7 = tableStandardControl.take 1 ++ tableRest.drop 2 := by rfl
theorem rowsOfOpcode_auipc : rowsOfOpcode 0b0010111#7 = (tableStandardControl.drop 1).take 1 ++ tableRest.drop 2 := by rfl
theorem rowsOfOpcode_jal : rowsOfOpcode 0b1101111#7 = (tableStandardControl.drop 2).take 1 ++ tableRest.drop 2 := by rfl
theorem rowsOfOpcode_jalr : rowsOfOpcode 0b1100111#7 =
    (tableStandardControl.drop 3).take 1 ++ (tableNonStandard.drop 2).take 1 ++ tableRest.drop 2 := by rfl
theorem rowsOfOpcode_load : rowsOfOpcode 0b0000011#7 =
    tableStandardMemory.take 5 ++ tableNonStandard.take 2 ++ tableRest.drop 2 := by rfl
theorem rowsOfOpcode_opImm : rowsOfOpcode 0b0010011#7 =
    tableStandardOpImm ++ (tableNonStandard.drop 8).take 2 ++ tableRest.drop 1 := by rfl
theorem rowsOfOpcode_branch : rowsOfOpcode 0b1100011#7 =
    tableStandardControl.drop 4 ++ (tableNonStandard.drop 3).take 1 ++ tableRest.drop 2 := by rfl
theorem rowsOfOpcode_store : rowsOfOpcode 0b0100011#7 =
    tableStandardMemory.drop 5 ++ (tableNonStandard.drop 4).take 4 ++ tableRest.drop 2 := by rfl
theorem rowsOfOpcode_op : rowsOfOpcode 0b0110011#7 =
    tableStandardOp ++ tableMul ++ tableNonStandard.drop 10 ++ tableRest.drop 2 := by rfl
theorem rowsOfOpcode_miscMem : rowsOfOpcode 0b0001111#7 = tableStandardSystem.take 2 ++ tableRest.drop 2 := by rfl
theorem rowsOfOpcode_system : rowsOfOpcode 0b1110011#7 =
    tableStandardSystem.drop 2 ++ tableRest.take 1 ++ tableRest.drop 2 := by rfl

theorem rowsOfOpcode_rest {op : BitVec 7} (hcov : op ∉ coveredOpcodes) (hmisc : op ≠ 0b0001111#7) :
    rowsOfOpcode op = tableRest.drop 2 := by
  have hall : op &&& 0b1111111#7 = op := BitVec.and_allOnes
  simp only [coveredOpcodes, List.mem_cons, List.not_mem_nil, or_false, not_or] at hcov
  simp [rowsOfOpcode, opcodeTable, tableStandardControl, tableStandardMemory, tableStandardOpImm, tableStandardOp,
    tableStandardSystem, tableMul, tableNonStandard, tableRest, hall, hcov, hmisc]

/-! ### Matching a row: a test on the fields its mask covers -/

section
variable {m : String} {b : Word} {p : Nat} {w : Word}

@[simp] theorem matches_mask_none : TableRow.matches ⟨m, b, 0x00000000#32, p⟩ w = true ↔ 0#32 = b := by
  simp [TableRow.matches]

@[simp] theorem matches_mask_word : TableRow.matches ⟨m, b, 0xFFFFFFFF#32, p⟩ w = true ↔ w = b := by
  have hall : w &&& 0xFFFFFFFF#32 = w := BitVec.and_allOnes
  simp [TableRow.matches, hall]

@[simp] theorem matches_mask_opcode :
    TableRow.matches ⟨m, b, 0x0000007F#32, p⟩ w = true ↔ packFields 0#7 0#5 0#5 0#3 0#5 (fieldOpcode w) = b := by
  simp [TableRow.matches, and_mask_opcode]

@[simp] theorem matches_mask_funct3 :
    TableRow.matches ⟨m, b, 0x0000707F#32, p⟩ w = true ↔ packFields 0#7 0#5 0#5 (fieldFunct3 w) 0#5 (fieldOpcode w) = b := by
  simp [TableRow.matches, and_mask_funct3]

@[simp] theorem matches_mask_funct3_low : TableRow.matches ⟨m, b, 0x0000307F#32, p⟩ w = true ↔
    packFields 0#7 0#5 0#5 (fieldFunct3 w &&& 0b011#3) 0#5 (fieldOpcode w) = b := by
  simp [TableRow.matches, and_mask_funct3_low]

@[simp] theorem matches_mask_funct3_high : TableRow.matches ⟨m, b, 0x0000607F#32, p⟩ w = true ↔
    packFields 0#7 0#5 0#5 (fieldFunct3 w &&& 0b110#3) 0#5 (fieldOpcode w) = b := by
  simp [TableRow.matches, and_mask_funct3_high]

@[simp] theorem matches_mask_funct7 : TableRow.matches ⟨m, b, 0xFE00707F#32, p⟩ w = true ↔
    packFields (fieldFunct7 w) 0#5 0#5 (fieldFunct3 w) 0#5 (fieldOpcode w) = b := by
  simp [TableRow.matches, and_mask_funct7]

@[simp] theorem matches_mask_funct7_bit5 : TableRow.matches ⟨m, b, 0x4000707F#32, p⟩ w = true ↔
    packFields (fieldFunct7 w &&& 0b0100000#7) 0#5 0#5 (fieldFunct3 w) 0#5 (fieldOpcode w) = b := by
  simp [TableRow.matches, and_mask_funct7_bit5]

@[simp] theorem matches_mask_funct7_rd : TableRow.matches ⟨m, b, 0xFE007FFF#32, p⟩ w = true ↔
    packFields (fieldFunct7 w) 0#5 0#5 (fieldFunct3 w) (fieldRd w) (fieldOpcode w) = b := by
  simp [TableRow.matches, and_mask_funct7_rd]

end

theorem and_bit5_of_badShiftFunct7 {f7 : BitVec 7} (h : badShiftFunct7 f7 = true) : f7 &&& 0b0100000#7 = 0b0000000#7 := by
  revert f7; decide

/-! ### The first match of each opcode -/

/-- The table's first match for `w` is the instruction's row. -/
def Instr.IsFirstMatch (i : Instr) (w : Word) : Prop := (tableLookup w).map (·.mnemonic) = some i.mnemonic

section
variable {w : Word}

theorem isFirstMatch_iff {op : BitVec 7} {i : Instr} (hop : fieldOpcode w = op) :
    i.IsFirstMatch w ↔ ((rowsOfOpcode op).find? (·.matches w)).map (·.mnemonic) = some i.mnemonic := by
  rw [Instr.IsFirstMatch, tableLookup_eq_find_rowsOfOpcode, hop]

theorem lui_isFirstMatch (hop : fieldOpcode w = 0b0110111#7) (rd : RegIdx) (imm20 : BitVec 20) :
    (Instr.lui rd imm20).IsFirstMatch w := by
  simp [isFirstMatch_iff hop, rowsOfOpcode_lui, tableStandardControl, hop, Instr.mnemonic]

theorem auipc_isFirstMatch (hop : fieldOpcode w = 0b0010111#7) (rd : RegIdx) (imm20 : BitVec 20) :
    (Instr.auipc rd imm20).IsFirstMatch w := by
  simp [isFirstMatch_iff hop, rowsOfOpcode_auipc, tableStandardControl, hop, Instr.mnemonic]

theorem jal_isFirstMatch (hop : fieldOpcode w = 0b1101111#7) (rd : RegIdx) (imm : BitVec 21) : (Instr.jal rd imm).IsFirstMatch w := by
  simp [isFirstMatch_iff hop, rowsOfOpcode_jal, tableStandardControl, hop, Instr.mnemonic]

theorem decodeJalr_isFirstMatch (hop : fieldOpcode w = 0b1100111#7) : (decodeJalr w).IsFirstMatch w := by
  rw [isFirstMatch_iff hop, rowsOfOpcode_jalr]
  unfold decodeJalr
  split <;> simp_all [tableStandardControl, tableNonStandard, Instr.mnemonic]

theorem decodeBranch_isFirstMatch (hop : fieldOpcode w = 0b1100011#7) : (decodeBranch w).IsFirstMatch w := by
  rw [isFirstMatch_iff hop, rowsOfOpcode_branch]
  rcases funct3_cases (fieldFunct3 w) with h | h | h | h | h | h | h | h <;>
    simp [decodeBranch, h, hop, tableStandardControl, tableNonStandard, Instr.mnemonic]

theorem decodeLoad_isFirstMatch (hop : fieldOpcode w = 0b0000011#7) : (decodeLoad w).IsFirstMatch w := by
  rw [isFirstMatch_iff hop, rowsOfOpcode_load]
  rcases funct3_cases (fieldFunct3 w) with h | h | h | h | h | h | h | h <;>
    simp [decodeLoad, h, hop, tableStandardMemory, tableNonStandard, Instr.mnemonic]

theorem decodeStore_isFirstMatch (hop : fieldOpcode w = 0b0100011#7) : (decodeStore w).IsFirstMatch w := by
  rw [isFirstMatch_iff hop, rowsOfOpcode_store]
  rcases funct3_cases (fieldFunct3 w) with h | h | h | h | h | h | h | h <;>
    simp [decodeStore, h, hop, tableStandardMemory, tableNonStandard, Instr.mnemonic]

theorem decodeShiftRightImm_isFirstMatch (hop : fieldOpcode w = 0b0010011#7) (h3 : fieldFunct3 w = 0b101#3) :
    (decodeShiftRightImm w).IsFirstMatch w := by
  apply decodeShiftRightImm_cases (Instr.IsFirstMatch · w)
  case one =>
    intro h7
    simp [isFirstMatch_iff hop, rowsOfOpcode_opImm, h3, hop, and_bit5_of_nonStandardSet h7, nonStandardFunct7Bit5Set.elim h7,
      tableStandardOpImm, tableNonStandard, Instr.mnemonic]
  case zero =>
    intro h7
    simp [isFirstMatch_iff hop, rowsOfOpcode_opImm, h3, hop, badShiftFunct7.elim h7, and_bit5_of_badShiftFunct7 h7,
      tableStandardOpImm, tableNonStandard, tableRest, Instr.mnemonic]
  all_goals
    intro h7
    simp [isFirstMatch_iff hop, rowsOfOpcode_opImm, h3, h7, hop, tableStandardOpImm, Instr.mnemonic]

theorem decodeOpImm_isFirstMatch (hop : fieldOpcode w = 0b0010011#7) : (decodeOpImm w).IsFirstMatch w := by
  rcases funct3_cases (fieldFunct3 w) with h | h | h | h | h | h | h | h
  case inr.inr.inr.inr.inr.inl => simpa [decodeOpImm, h] using decodeShiftRightImm_isFirstMatch hop h
  case inr.inl =>
    by_cases h7 : fieldFunct7 w = 0b0000000#7 <;>
      simp [isFirstMatch_iff hop, decodeOpImm, h, h7, hop, rowsOfOpcode_opImm, tableStandardOpImm, tableNonStandard, Instr.mnemonic]
  all_goals
    simp [isFirstMatch_iff hop, decodeOpImm, h, hop, rowsOfOpcode_opImm, tableStandardOpImm, Instr.mnemonic]

theorem decodeOpMul_isFirstMatch (hop : fieldOpcode w = 0b0110011#7) (h7 : fieldFunct7 w = 0b0000001#7) :
    (decodeOpMul w).IsFirstMatch w := by
  rw [isFirstMatch_iff hop, rowsOfOpcode_op]
  rcases funct3_cases (fieldFunct3 w) with h | h | h | h | h | h | h | h <;>
    simp [decodeOpMul, h, h7, hop, tableStandardOp, tableMul, Instr.mnemonic]

theorem decodeOpZero_isFirstMatch (hop : fieldOpcode w = 0b0110011#7) (h7 : fieldFunct7 w = 0b0000000#7) :
    (decodeOpZero w).IsFirstMatch w := by
  rw [isFirstMatch_iff hop, rowsOfOpcode_op]
  rcases funct3_cases (fieldFunct3 w) with h | h | h | h | h | h | h | h <;>
    simp [decodeOpZero, h, h7, hop, tableStandardOp, Instr.mnemonic]

theorem decodeOpOther_isFirstMatch (hop : fieldOpcode w = 0b0110011#7) (h7 : nonStandardFunct7 (fieldFunct7 w) = true) :
    (decodeOpOther w).IsFirstMatch w := by
  unfold decodeOpOther
  obtain ⟨h0, h1⟩ := nonStandardFunct7.elim h7
  rcases funct3_cases (fieldFunct3 w) with h | h | h | h | h | h | h | h
  case inl | inr.inr.inr.inr.inr.inl =>
    simp only [h, reduceIte, BitVec.reduceEq]
    apply decodeOpByBit5_cases (Instr.IsFirstMatch · w) h7
    case hstd => intro h5; simp [isFirstMatch_iff hop, rowsOfOpcode_op, h, h5, hop, tableStandardOp, tableMul, Instr.mnemonic]
    case hone =>
      intro h5
      simp [isFirstMatch_iff hop, rowsOfOpcode_op, h, h0, h1, nonStandardFunct7Bit5Set.elim h5, and_bit5_of_nonStandardSet h5,
        hop, tableStandardOp, tableMul, tableNonStandard, Instr.mnemonic]
    case hzero =>
      intro h5
      simp [isFirstMatch_iff hop, rowsOfOpcode_op, h, h0, h1, nonStandardFunct7Bit5Clear.elim h5,
        and_bit5_of_nonStandardClear h5, hop, tableStandardOp, tableMul, tableNonStandard, Instr.mnemonic]
  all_goals
    simp [isFirstMatch_iff hop, rowsOfOpcode_op, h, h0, h1, hop, tableStandardOp, tableMul, tableNonStandard, Instr.mnemonic]

theorem decodeMiscMem_isFirstMatch (hop : fieldOpcode w = 0b0001111#7) : (decodeMiscMem w).IsFirstMatch w := by
  rw [isFirstMatch_iff hop, rowsOfOpcode_miscMem]
  unfold decodeMiscMem
  split_ifs with h0 h1 <;> simp [*, tableStandardSystem, tableRest, Instr.mnemonic]

theorem decodeSystem_isFirstMatch (hop : fieldOpcode w = 0b1110011#7) : (decodeSystem w).IsFirstMatch w := by
  have hne : w ∉ exactSystemWords → w ≠ 0x00000073#32 ∧ w ≠ 0x00100073#32 ∧ w ≠ 0x30200073#32 ∧ w ≠ 0x10200073#32 ∧
      w ≠ 0x10500073#32 := by
    simp [exactSystemWords]
  apply decodeSystem_cases (Instr.IsFirstMatch · w)
  case named =>
    have hexact : ∀ c ∈ exactSystemWords, (decodeSystem c).IsFirstMatch c := by
      simp only [exactSystemWords, List.forall_mem_cons]
      exact ⟨rfl, rfl, rfl, rfl, rfl, List.forall_mem_nil _⟩
    exact hexact w
  case vma =>
    intro hw h3 h7 hd
    simp [isFirstMatch_iff hop, rowsOfOpcode_system, hne hw, h3, h7, hd, hop, tableStandardSystem, Instr.mnemonic]
  case other =>
    intro hw h3 hvma
    rw [isFirstMatch_iff hop, rowsOfOpcode_system]
    rcases h3 with h3 | h3 <;> simp_all [tableStandardSystem, tableRest, Instr.mnemonic]
  case csr =>
    intro hw h3
    rcases h3 with h | h | h | h | h | h <;>
      simp [isFirstMatch_iff hop, rowsOfOpcode_system, decodeSystem, hne hw, h, hop, tableStandardSystem, Instr.mnemonic]

theorem unrecognised_isFirstMatch (hcov : fieldOpcode w ∉ coveredOpcodes) (hmisc : fieldOpcode w ≠ 0b0001111#7) :
    (Instr.unrecognised w).IsFirstMatch w := by
  simp [isFirstMatch_iff rfl, rowsOfOpcode_rest hcov hmisc, tableRest, Instr.mnemonic]

theorem decode_isFirstMatch (w : Word) : (decode w).IsFirstMatch w := by
  apply decode_cases (Instr.IsFirstMatch · w)
  case lui => exact fun hop => lui_isFirstMatch hop ..
  case auipc => exact fun hop => auipc_isFirstMatch hop ..
  case jal => exact fun hop => jal_isFirstMatch hop ..
  case jalr => exact decodeJalr_isFirstMatch
  case load => exact decodeLoad_isFirstMatch
  case opImm => exact decodeOpImm_isFirstMatch
  case branch => exact decodeBranch_isFirstMatch
  case store => exact decodeStore_isFirstMatch
  case op =>
    exact fun hop => decodeOp_cases (Instr.IsFirstMatch · w) (decodeOpMul_isFirstMatch hop) (decodeOpZero_isFirstMatch hop)
      (decodeOpOther_isFirstMatch hop)
  case miscMem => exact decodeMiscMem_isFirstMatch
  case system => exact decodeSystem_isFirstMatch
  case rest => exact unrecognised_isFirstMatch

end

end Sys2Proof
end

section
/-! SUPPORT. The Decoder's record: its immediate by class, bit by bit (R93 to R98), and when it is the safe default's (R120). -/

namespace Sys2Proof.Machine

open Sys2Proof.Claims

/-! ### Immediates -/

/-- The immediate a class of instruction takes from the word (R111 to R120); OP-IMM's is a shift amount for funct3 001 and 101. -/
def immediateOf (w : Word) : OpClass → Word
  | .jalr | .load => immI (fieldImmI w)
  | .store => immS (fieldImmS w)
  | .branch => immB (fieldImmB w)
  | .lui | .auipc => immU (fieldImmU w)
  | .jal => immJ (fieldImmJ w)
  | .alu => if fieldFunct3 w = 0b001#3 ∨ fieldFunct3 w = 0b101#3 then immSH (fieldRs2 w) else immI (fieldImmI w)
  | .none => 0#32

/-- A record's immediate is that of its class; of ALU records, only OP-IMM's have one. -/
def HasImmediateOf (w : Word) (d : DecodedInstruction) : Prop :=
  (d.opClass = .alu → d.aluSrc = true) → d.imm = immediateOf w d.opClass

theorem recordOpImm_hasImmediateOf (w : Word) : HasImmediateOf w (recordOpImm w) := by
  unfold recordOpImm
  split
  · exact fun _ => rfl
  · simp [HasImmediateOf, immediateOf]

theorem recordOp_hasImmediateOf (w : Word) : HasImmediateOf w (recordOp w) := by
  unfold recordOp
  split
  · exact fun _ => rfl
  · exact fun h => nomatch h rfl

theorem decodeRecord_hasImmediateOf (w : Word) : HasImmediateOf w (decodeRecord w) := by
  unfold decodeRecord
  split_ifs
  exacts [fun _ => rfl, fun _ => rfl, fun _ => rfl, fun _ => rfl, fun _ => rfl, recordOpImm_hasImmediateOf w, fun _ => rfl,
    fun _ => rfl, recordOp_hasImmediateOf w, fun _ => rfl]

section
variable (w : Word)

theorem immI_bits : SignExtends (immI (fieldImmI w)) w 11 fun i => w.getLsbD (20 + i) := by
  intro i hi
  simp only [immI, fieldImmI, BitVec.getLsbD_signExtend, BitVec.getLsbD_extractLsb', BitVec.msb_eq_getLsbD_last]
  interval_cases i <;> simp

theorem immS_bits :
    SignExtends (immS (fieldImmS w)) w 11 fun i => if i < 5 then w.getLsbD (7 + i) else w.getLsbD (20 + i) := by
  intro i hi
  simp only [immS, fieldImmS, BitVec.getLsbD_signExtend, BitVec.getLsbD_append, BitVec.getLsbD_extractLsb',
    BitVec.msb_eq_getLsbD_last]
  interval_cases i <;> simp

theorem immB_bits : SignExtends (immB (fieldImmB w)) w 12 fun i =>
    if i = 0 then false else if i < 5 then w.getLsbD (7 + i) else if i < 11 then w.getLsbD (20 + i) else w.getLsbD 7 := by
  intro i hi
  simp only [immB, fieldImmB, BitVec.getLsbD_signExtend, BitVec.getLsbD_append, BitVec.getLsbD_extractLsb',
    BitVec.msb_eq_getLsbD_last]
  interval_cases i <;> simp

theorem immJ_bits : SignExtends (immJ (fieldImmJ w)) w 20 fun i =>
    if i = 0 then false else if i < 11 then w.getLsbD (20 + i) else if i = 11 then w.getLsbD 20 else w.getLsbD i := by
  intro i hi
  simp only [immJ, fieldImmJ, BitVec.getLsbD_signExtend, BitVec.getLsbD_append, BitVec.getLsbD_extractLsb',
    BitVec.msb_eq_getLsbD_last]
  interval_cases i <;> simp

theorem immU_bits : ∀ i < 32, (immU (fieldImmU w)).getLsbD i = if i < 12 then false else w.getLsbD i := by
  intro i hi
  simp only [immU, fieldImmU, BitVec.getLsbD_append, BitVec.getLsbD_extractLsb']
  split_ifs
  · simp
  · rw [show 12 + (i - 12) = i by omega]; simp; omega

theorem immSH_bits : ∀ i < 32, (immSH (fieldRs2 w)).getLsbD i = if i < 5 then w.getLsbD (20 + i) else false := by
  intro i hi
  by_cases h : i < 5 <;> simp [immSH, fieldRs2, h, hi]

end

/-! ### The ALU function, and the safe default's record -/

theorem shape_record_aluFunc_ne_invalid (i : Instr) : (shape i).record.aluFunc ≠ .invalid := by
  cases i <;> simp [shape, Shape.record, defaultRecord]

theorem Shape.record_opClass_eq_none {sh : Shape} : sh.record.opClass = .none ↔ sh = .nop ∨ sh = .mul := by
  cases sh <;> simp [Shape.record, defaultRecord]

theorem isMul_eq_true {i : Instr} : isMul i = true ↔ shape i = .mul := by
  cases i <;> simp [isMul, shape]

theorem onlyAdvances_of_shape_nop {i : Instr} (h : shape i = .nop) (s : State) : OnlyAdvances i s := by
  show exec i s = safeDefault s
  rw [exec_eq_run, h, Shape.run]

theorem exec_of_shape_mul {i : Instr} (h : shape i = .mul) (s : State) :
    OnlyAdvances i s ∨ s.cfg.opFunct701 = .refuse ∧ exec i s = .refused (.funct7_01 s.pc) := by
  rw [OnlyAdvances, exec_eq_run, h, Shape.run, opFunct701]
  cases s.cfg.opFunct701
  · exact .inl rfl
  · exact .inr ⟨rfl, rfl⟩

theorem decDefault_eq_true {w : Word} : decDefault w = true ↔ shape (decode w) = .nop ∨ shape (decode w) = .mul := by
  rw [decDefault, beq_iff_eq, decodeRecord_eq, Shape.record_opClass_eq_none]

theorem decodeRecord_of_decDefault {w : Word} (h : decDefault w = true) : decodeRecord w = defaultRecord := by
  rw [decodeRecord_eq]
  rcases decDefault_eq_true.mp h with h | h <;> rw [h, Shape.record]

end Sys2Proof.Machine
end

section
/-! PROOFS. The statements of 30_encoding.md. -/

namespace Sys2Proof.Proofs

open Sys2Proof Sys2Proof.Machine Sys2Proof.Claims

/-- Settles O1: each form's fields are read back from its packed word. -/
theorem decodeOfEncodeIsTheInstruction : Obligations.DecodeOfEncodeIsTheInstruction := fun _ => decode_encode

/-- Settles O2: each case of the decoder takes all of the word's fields, and fixes the ones it does not take. -/
theorem encodeOfDecodeIsTheWord : Obligations.EncodeOfDecodeIsTheWord := decode_hasWord

/-- Settles O3: of the rows of the word's opcode, the first that matches is that of the decoder's case. -/
theorem decoderAgreesWithOpcodeTable : Obligations.DecoderAgreesWithOpcodeTable := decode_isFirstMatch

/-- Settles O6: the class of the record names the immediate's format. -/
theorem immediatesAreTheirBits : Obligations.ImmediatesAreTheirBits := by
  intro w
  have himm {c : OpClass} (h : (decodeRecord w).opClass = c) (hsrc : c = .alu → (decodeRecord w).aluSrc = true) :
      (decodeRecord w).imm = immediateOf w c := h ▸ decodeRecord_hasImmediateOf w (h ▸ hsrc)
  refine ⟨?_, fun h => ?_, fun h => ?_, ?_, fun h => ?_, ?_⟩
  · rintro (h | h | ⟨h, hsrc, h1, h5⟩)
    · exact himm h nofun ▸ immI_bits w
    · exact himm h nofun ▸ immI_bits w
    · have hshift : ¬(fieldFunct3 w = 0b001#3 ∨ fieldFunct3 w = 0b101#3) := not_or.mpr ⟨h1, h5⟩
      rw [himm h fun _ => hsrc, immediateOf, if_neg hshift]
      exact immI_bits w
  · exact himm h nofun ▸ immS_bits w
  · exact himm h nofun ▸ immB_bits w
  · rintro (h | h)
    · exact himm h nofun ▸ immU_bits w
    · exact himm h nofun ▸ immU_bits w
  · exact himm h nofun ▸ immJ_bits w
  · rintro ⟨h, hsrc, hshift⟩
    rw [himm h fun _ => hsrc, immediateOf, if_pos hshift]
    exact immSH_bits w

/-- Settles O7: no shape has that function. -/
theorem decoderNeverGivesInvalid : Obligations.DecoderNeverGivesInvalid := fun w =>
  decodeRecord_eq w ▸ shape_record_aluFunc_ne_invalid (decode w)

/-- Settles O8: the shapes with the default record are the safe default's and the M-extension words'. -/
theorem safeDefaultIsDecDefault : Obligations.SafeDefaultIsDecDefault := by
  refine fun w => ⟨⟨decodeRecord_of_decDefault, fun h => by rw [decDefault, h]; rfl⟩, fun h s => ⟨?_, ?_⟩⟩
  · rw [decodeRecord_of_decDefault h]; rfl
  · rcases decDefault_eq_true.mp h with hnop | hmul
    · exact .inl (onlyAdvances_of_shape_nop hnop s)
    · exact (exec_of_shape_mul hmul s).imp_right (And.intro (isMul_eq_true.mpr hmul))

/-- Settles O4: the table is finite, and its rows are compared pair by pair. -/
theorem opcodeTableIsUnambiguous : Obligations.OpcodeTableIsUnambiguous := by
  refine ⟨?_, rfl⟩
  decide

end Sys2Proof.Proofs
end

section
/-! SUPPORT. The components of 40_datapath.md: the ALU's operations on numbers, the class of a LOAD and a STORE word, and how a cycle stops
(R143, R145, R182, R185). -/

namespace Sys2Proof.Machine

open Sys2Proof.Claims

/-! ### The ALU and the BranchFlags -/

/-- R142: the low 5 bits of operand B are its remainder by 32. -/
theorem shiftAmount_eq_mod (b : Word) : shiftAmount b = b.toNat % 32 := by
  simp [shiftAmount]

/-- R145, as comparisons of the numbers the words stand for. -/
theorem branchFlags_eq_decide (a b : Word) : branchFlags a b =
    { eq := decide (a = b), ltSigned := decide (a.toInt < b.toInt), ltUnsigned := decide (a.toNat < b.toNat) } := rfl

/-! ### The memory operation of a word -/

/-- Only a LOAD and a STORE present an access (R151). -/
theorem controlTable_memOp_eq_none {c : OpClass} (hload : c ≠ .load) (hstore : c ≠ .store) (mode : BitVec 3) (fl : BranchFlags) :
    (controlTable c mode fl).memOp = .none := by
  cases c
  case load => exact absurd rfl hload
  case store => exact absurd rfl hstore
  all_goals rfl

section
variable {w : Word}

/-- R115. -/
theorem decodeRecord_of_load (h : fieldOpcode w = 0b0000011#7) :
    decodeRecord w = (Shape.load (fieldFunct3 w) (fieldRd w) (fieldRs1 w) (fieldImmI w)).record := by
  simp [decodeRecord_eq, shape_decode, h]

/-- R118. -/
theorem decodeRecord_of_store (h : fieldOpcode w = 0b0100011#7) :
    decodeRecord w =
      (Shape.store ((fieldFunct3 w).extractLsb' 0 2) (fieldRs1 w) (fieldRs2 w) (fieldImmS w)).record := by
  simp [decodeRecord_eq, shape_decode, h]

theorem recordOpImm_opClass_ne (w : Word) : (recordOpImm w).opClass ≠ .load ∧ (recordOpImm w).opClass ≠ .store := by
  unfold recordOpImm
  split <;> exact ⟨nofun, nofun⟩

theorem recordOp_opClass_ne (w : Word) : (recordOp w).opClass ≠ .load ∧ (recordOp w).opClass ≠ .store := by
  unfold recordOp
  split <;> exact ⟨nofun, nofun⟩

/-- A word of another opcode than LOAD and STORE has neither's class (R110). -/
theorem decodeRecord_opClass_ne (hload : fieldOpcode w ≠ 0b0000011#7) (hstore : fieldOpcode w ≠ 0b0100011#7) :
    (decodeRecord w).opClass ≠ .load ∧ (decodeRecord w).opClass ≠ .store := by
  unfold decodeRecord
  rw [if_neg hload, if_neg hstore]
  split_ifs
  exacts [⟨nofun, nofun⟩, ⟨nofun, nofun⟩, ⟨nofun, nofun⟩, ⟨nofun, nofun⟩, recordOpImm_opClass_ne w, ⟨nofun, nofun⟩,
    recordOp_opClass_ne w, ⟨nofun, nofun⟩]

end

/-! ### How a cycle stops -/

/-- The outcome of the data access is its fault's (R182). -/
theorem accessOutcome_of_error {s : State} {d : DecodedInstruction} {f : Fault} (h : cycleAccess s d = .error f) :
    accessOutcome s d = some (outcomeOfFault f) := by
  rw [cycleAccess] at h
  cases f <;> simp only [accessOutcome, h, outcomeOfFault]

section
variable {s : State}

theorem modelOutcome_of_no_fetch (h : s.fetch = none) : modelOutcome s = some (.fetchUndefined s.pc) := by
  rw [modelOutcome, h]

variable {w : Word} (hfetch : s.fetch = some w)
include hfetch

theorem modelOutcome_of_refused
    (h : s.cfg.opFunct701 = .refuse ∧ fieldOpcode w = 0b0110011#7 ∧ fieldFunct7 w = 0b0000001#7) :
    modelOutcome s = some (.funct7_01 s.pc) := by
  simp only [modelOutcome, hfetch, if_pos h]

/-- A word that is not refused reads an unwritten register, or has its data access's outcome (R182). -/
theorem modelOutcome_of_not_refused
    (h : ¬(s.cfg.opFunct701 = .refuse ∧ fieldOpcode w = 0b0110011#7 ∧ fieldFunct7 w = 0b0000001#7)) :
    modelOutcome s = accessOutcome s (decodeRecord w) ∨ ∃ i, modelOutcome s = some (.unwrittenRegister i) := by
  simp only [modelOutcome, hfetch, if_neg h]
  cases unwrittenRead s (decodeRecord w) with
  | none => exact .inl rfl
  | some i => exact .inr ⟨i, rfl⟩

end

/-- How a cycle may end where the spec's outcome is `o`, by R182 and log 1. -/
def EndsAs (s : State) (o : Option ModelOutcome) : Result → Prop
  | .next _ => o = none ∨ ∃ i, o = some (.unwrittenRegister i)
  | .fault f => o = some (outcomeOfFault f) ∨ ∃ i, o = some (.unwrittenRegister i)
  | .refused r => r = .funct7_01 s.pc ∧ o = some (.funct7_01 s.pc)

/-- With reset deasserted a step ends as the spec's outcome says, item by item of R182. -/
theorem step_endsAs_modelOutcome {s : State} (hrst : s.rst = false) : EndsAs s (modelOutcome s) (step s) := by
  rw [step_eq_datapathStep, datapathStep, if_neg (by simp [hrst])]
  cases hfetch : s.fetch with
  | none => exact .inl (modelOutcome_of_no_fetch hfetch)
  | some w =>
    dsimp only
    split_ifs with hmul
    · exact ⟨rfl, modelOutcome_of_refused hfetch hmul⟩
    · have hout := modelOutcome_of_not_refused hfetch hmul
      cases hacc : cycleAccess s (decodeRecord w) with
      | ok p =>
        rw [accessOutcome_eq_none.mpr ⟨p.1, p.2, hacc⟩] at hout
        rw [datapathCycle_of_access hacc]
        exact hout
      | error f =>
        rw [accessOutcome_of_error hacc] at hout
        rw [datapathCycle_of_error hacc]
        exact hout

end Sys2Proof.Machine
end

section
/-! PROOFS. The statements of 40_datapath.md. -/

namespace Sys2Proof.Proofs

open Sys2Proof Sys2Proof.Machine Sys2Proof.Claims

/-- Settles O48: the block's cycle on the decoded record is the shape of the decoded instruction, at a reset edge too. -/
theorem datapathRefinesTheInstructions : Obligations.DatapathRefinesTheInstructions := fun s =>
  (step_eq_datapathStep s).symm

/-- Settles O51: each clause reads off how the step ends. -/
theorem stepStopsWhereTheSpecDoes : Obligations.StepStopsWhereTheSpecDoes := by
  intro s hrst
  have hends := step_endsAs_modelOutcome hrst
  refine ⟨fun hdef => ?_, fun f hf => ?_, fun r hr => ?_, fun o ho hne t ht => ?_⟩
  · rw [show modelOutcome s = none from hdef] at hends
    cases hstep : step s with
    | next t => exact ⟨t, rfl⟩
    | fault f => simp [hstep, EndsAs] at hends
    | refused r => simp [hstep, EndsAs] at hends
  · rwa [hf] at hends
  · rwa [hr] at hends
  · rw [ht, ho] at hends
    obtain hnone | ⟨i, hi⟩ := hends
    · cases hnone
    · exact hne i (Option.some.inj hi)

/-- Settles O47: the record of a LOAD or STORE word is its shape's, and no other word has either class. -/
theorem memorySignals : Obligations.MemorySignals := by
  refine fun s w => ⟨rfl, fun h => ?_, fun h => ?_, fun hload hstore => ?_⟩
  · rw [outputs, decodeRecord_of_load h]
    exact ⟨rfl, rfl, rfl⟩
  · rw [outputs, decodeRecord_of_store h]
    exact ⟨rfl, rfl, rfl, rfl⟩
  · obtain ⟨hl, hs⟩ := decodeRecord_opClass_ne hload hstore
    rw [outputs, controlOf, controlTable_memOp_eq_none hl hs, dmemOpCode]

/-- Settles O41: each function is the operation on words of its name, whose value the library gives. -/
theorem aluComputesItsTable : Obligations.AluComputesItsTable := by
  intro a b
  refine ⟨BitVec.toNat_add a b, ?_, fun i => BitVec.getLsbD_and, fun i => BitVec.getLsbD_or, fun i => BitVec.getLsbD_xor,
    ?_, ?_, ?_, ?_, ?_, rfl⟩
  · have hb : b.toNat < 2 ^ 32 := b.isLt
    rw [alu, BitVec.toNat_sub, show 2 ^ 32 - b.toNat + a.toNat = a.toNat + 2 ^ 32 - b.toNat by omega]
  · simp [alu, boolWord, BitVec.slt_iff_toInt_lt]
  · simp [alu, boolWord, BitVec.ult_iff_lt, BitVec.lt_def]
  · simp [alu, shiftAmount_eq_mod, Nat.shiftLeft_eq]
  · simp [alu, shiftAmount_eq_mod, Nat.shiftRight_eq_div_pow]
  · simp [alu, shiftAmount_eq_mod, BitVec.toInt_sshiftRight, Int.shiftRight_eq_div_pow]

/-- Settles O42: `controlOf` reads the flags of the two registers, and neither `aluSrc` nor `imm`. -/
theorem branchFlagsCompareTheRawRegisters : Obligations.BranchFlagsCompareTheRawRegisters := by
  refine ⟨branchFlags_eq_decide, fun s d src imm => ⟨?_, rfl⟩⟩
  rw [controlOf, branchFlags_eq_decide]

/-- Settles O43: each `mem_mode` picks its row. -/
theorem branchDecisionTable : Obligations.BranchDecisionTable := fun _ => ⟨rfl, rfl, rfl, rfl, rfl, rfl, rfl, rfl⟩

/-- Settles O44: asserted, reset is tested before `pc_op`; deasserted, each `pc_op` picks its candidate. -/
theorem nextPcSelection : Obligations.NextPcSelection := fun _ _ _ _ _ => ⟨fun _ => rfl, rfl, rfl, rfl, rfl⟩

/-- Settles O45: each `wb_select` picks its source. -/
theorem writeBackSelection : Obligations.WriteBackSelection := fun _ _ _ => ⟨rfl, rfl, rfl⟩

end Sys2Proof.Proofs
end

section
/-! SUPPORT. The row of an instruction whose row fixes only the opcode (R99, R129). -/

namespace Sys2Proof.Machine

open Sys2Proof.Claims

/-- The row's mask keeps the opcode field alone, so the other operands of the instruction do not matter. -/
theorem encodes_of_opcode {i : Instr} {op : BitVec 7} {bits : Word} (hop : fieldOpcode (encode i) = op)
    (hbits : packFields 0#7 0#5 0#5 0#3 0#5 op = bits) : Encodes i 0x0000007F#32 bits := fun hwf =>
  ⟨by rw [and_mask_opcode, hop, hbits], decode_encode hwf⟩

end Sys2Proof.Machine
end

section
/-! PROOFS. The statements of 41_upper_immediate.md. -/

namespace Sys2Proof.Proofs

open Sys2Proof Sys2Proof.Machine Sys2Proof.Claims

/-- Settles O9: both words carry their opcode, and both meanings are one write with the PC advanced. -/
theorem upperImmediateResults : Obligations.UpperImmediateResults := by
  refine fun rd imm20 s => ⟨?_, writeAndAdvance_eq rd (immU imm20) s, ?_, writeAndAdvance_eq rd (s.pc + immU imm20) s⟩
  · exact encodes_of_opcode (fieldOpcode_packU ..) (by decide)
  · exact encodes_of_opcode (fieldOpcode_packU ..) (by decide)

end Sys2Proof.Proofs
end

section
/-! SUPPORT. The row of an instruction whose row fixes the opcode and funct3 (R99, R129), and the meaning of the jumps (R210, R211). -/

namespace Sys2Proof.Machine

open Sys2Proof.Claims

/-- The row's mask keeps the opcode and funct3 fields alone. -/
theorem encodes_of_funct3 {i : Instr} {f3 : BitVec 3} {op : BitVec 7} {bits : Word} (hop : fieldOpcode (encode i) = op)
    (hf3 : fieldFunct3 (encode i) = f3) (hbits : packFields 0#7 0#5 0#5 f3 0#5 op = bits) :
    Encodes i 0x0000707F#32 bits := fun hwf =>
  ⟨by rw [and_mask_funct3, hop, hf3, hbits], decode_encode hwf⟩

/-- Both operands of the update are read from the state before the edge (R210). -/
theorem exec_jal (rd : RegIdx) (imm : BitVec 21) (s : State) :
    exec (.jal rd imm) s = .next ((s.setX rd (s.pc + 4#32)).jump (s.pc + imm.signExtend 32)) := rfl

/-- The base register is read from the state before the link is written, so `rd = rs1` is no exception (R211). -/
theorem exec_jalr (rd rs1 : RegIdx) (imm : BitVec 12) (s : State) :
    exec (.jalr rd rs1 imm) s =
      .next ((s.setX rd (s.pc + 4#32)).jump ((s.getX rs1 + imm.signExtend 32) &&& 0xFFFFFFFE#32)) := rfl

/-- JALR ignores funct3 (R114): the two forms have one shape. -/
theorem exec_jalrF3Nonzero_eq_jalr (funct3 : BitVec 3) (rd rs1 : RegIdx) (imm : BitVec 12) (s : State) :
    exec (.jalrF3Nonzero funct3 rd rs1 imm) s = exec (.jalr rd rs1 imm) s :=
  (exec_eq_run _ s).trans (exec_eq_run (.jalr rd rs1 imm) s).symm

end Sys2Proof.Machine
end

section
/-! PROOFS. The statements of 42_jumps.md. -/

namespace Sys2Proof.Proofs

open Sys2Proof Sys2Proof.Machine Sys2Proof.Claims

/-- Settles O10: the words carry their opcode, JALR's standard one funct3 000 too, and the two JALR forms have one meaning. -/
theorem jumpResults : Obligations.JumpResults := by
  refine fun rd rs1 funct3 immj imm s => ⟨?_, exec_jal rd immj s, ?_, exec_jalr rd rs1 imm s, ?_, ?_⟩
  · exact encodes_of_opcode (fieldOpcode_packJ ..) (by decide)
  · exact encodes_of_funct3 (fieldOpcode_packI ..) (fieldFunct3_packI ..) (by decide)
  · exact encodes_of_opcode (fieldOpcode_packI ..) (by decide)
  · rw [exec_jalrF3Nonzero_eq_jalr, exec_jalr]

end Sys2Proof.Proofs
end

section
/-! SUPPORT. The rows of LOAD and STORE with size code 11 (R225, R283), and a load whose bytes all have values (R66, R68). -/

namespace Sys2Proof.Machine

open Sys2Proof.Claims

/-! ### Size code 11 -/

/-- The row's mask keeps the size code and the opcode alone, so mem_mode bit 2 does not matter. -/
theorem encodes_of_size11 {i : Instr} {f : BitVec 1} {op : BitVec 7} {bits : Word} (hop : fieldOpcode (encode i) = op)
    (hf3 : fieldFunct3 (encode i) = f ++ 0b11#2) (hbits : packFields 0#7 0#5 0#5 0b011#3 0#5 op = bits) :
    Encodes i 0x0000307F#32 bits := fun hwf =>
  ⟨by rw [and_mask_funct3_low, hop, hf3, append_low_and, hbits], decode_encode hwf⟩

theorem loadSize11_encodes (f : BitVec 1) (rd rs1 : RegIdx) (imm : BitVec 12) :
    Encodes (.loadSize11 f rd rs1 imm) 0x0000307F#32 0x00003003#32 :=
  encodes_of_size11 (fieldOpcode_packI ..) (fieldFunct3_packI ..) (by decide)

theorem storeSize11_encodes (f : BitVec 1) (rs1 rs2 : RegIdx) (imm : BitVec 12) :
    Encodes (.storeSize11 f rs1 rs2 imm) 0x0000307F#32 0x00003023#32 :=
  encodes_of_size11 (fieldOpcode_packS ..) (fieldFunct3_packS ..) (by decide)

theorem exec_loadSize11 (f : BitVec 1) (rd rs1 : RegIdx) (imm : BitVec 12) (s : State) :
    exec (.loadSize11 f rd rs1 imm) s = .fault (.memSizeReserved s.pc) := rfl

theorem exec_storeSize11 (f : BitVec 1) (rs1 rs2 : RegIdx) (imm : BitVec 12) (s : State) :
    exec (.storeSize11 f rs1 rs2 imm) s = .fault (.memSizeReserved s.pc) := rfl

/-! ### A read whose bytes all have values -/

/-- Little-endian (D1): the next byte stands above the bytes already read. -/
theorem Memory.readLE_succ {m : Memory} {a : Word} {n w : Nat} {v : BitVec w} {b : Byte} (hw : w = 8 * n)
    (hv : m.readLE a n = some (v.setWidth 32)) (hb : m.read (byteAddr a n).toNat = some b) :
    m.readLE a (n + 1) = some ((b ++ v).setWidth 32) := by
  simp only [Memory.readLE, hv, hb, Option.some.injEq]
  subst hw
  refine BitVec.eq_of_getLsbD_eq fun i hi => ?_
  rw [getLsbD_or_shiftedByte, BitVec.getLsbD_setWidth, BitVec.getLsbD_setWidth, BitVec.getLsbD_append]
  by_cases hlow : i < 8 * n
  · simp [hi, hlow]
  · simp [hi, hlow, BitVec.getLsbD_of_ge v i (Nat.not_lt.mp hlow)]

section
variable {m : Memory} {a : Word} {b0 b1 b2 b3 : Byte} (h0 : m.read a.toNat = some b0)
include h0

theorem Memory.readLE_one : m.readLE a 1 = some (b0.setWidth 32) := by
  simp [Memory.readLE, byteAddr, h0]

theorem Memory.readLE_two (h1 : m.read (a + 1#32).toNat = some b1) : m.readLE a 2 = some ((b1 ++ b0).setWidth 32) :=
  Memory.readLE_succ (by decide) (Memory.readLE_one h0) h1

theorem Memory.readLE_four (h1 : m.read (a + 1#32).toNat = some b1) (h2 : m.read (a + 2#32).toNat = some b2)
    (h3 : m.read (a + 3#32).toNat = some b3) : m.readLE a 4 = some (b3 ++ b2 ++ b1 ++ b0) := by
  have hthree : m.readLE a 3 = some ((b2 ++ (b1 ++ b0)).setWidth 32) := Memory.readLE_succ (by decide) (Memory.readLE_two h0 h1) h2
  have hfour : m.readLE a 4 = some ((b3 ++ (b2 ++ (b1 ++ b0))).setWidth 32) := Memory.readLE_succ (by decide) hthree h3
  rw [hfour, BitVec.setWidth_eq, BitVec.append_assoc, BitVec.append_assoc]
  rfl

end

/-! ### A load that completes -/

/-- An accepted load whose bytes hold `v` writes `v` widened and advances. -/
theorem loadTo_of_read {size : AccessSize} {rd rs1 : RegIdx} {imm : BitVec 12} {s : State} {a v : Word}
    (ha : a = s.getX rs1 + imm.signExtend 32) (hacc : Accepted s a size.bytes) (hread : s.dmem.readLE a size.bytes = some v)
    (how : Widening) :
    loadTo size how rd rs1 imm s = .next ((s.setX rd (widen size how v)).jump (s.pc + 4#32)) := by
  subst ha
  rw [← writeAndAdvance_eq]
  exact loadTo_eq_next.mpr ⟨State.misaligned_eq_false.mpr hacc, v, hread, rfl⟩

@[simp] theorem widen_byte_sign (b : Byte) : widen .byte .sign (b.setWidth 32) = b.signExtend 32 := by simp [widen]
@[simp] theorem widen_byte_zero (b : Byte) : widen .byte .zero (b.setWidth 32) = b.setWidth 32 := by simp [widen]
@[simp] theorem widen_half_sign (h : BitVec 16) : widen .half .sign (h.setWidth 32) = h.signExtend 32 := by simp [widen]
@[simp] theorem widen_half_zero (h : BitVec 16) : widen .half .zero (h.setWidth 32) = h.setWidth 32 := by simp [widen]

end Sys2Proof.Machine
end

section
/-! PROOFS. The statements of 43_loads.md. -/

namespace Sys2Proof.Proofs

open Sys2Proof Sys2Proof.Machine Sys2Proof.Claims

/-- Settles O15: neither meaning depends on a register or on memory, and the words carry size code 11 whatever mem_mode bit 2 is. -/
theorem sizeCode11Stops : Obligations.SizeCode11Stops := fun f rd rs1 rs2 imm s =>
  ⟨loadSize11_encodes f rd rs1 imm, exec_loadSize11 f rd rs1 imm s, storeSize11_encodes f rs1 rs2 imm, exec_storeSize11 f rs1 rs2 imm s⟩

/-- Settles O14: each word carries its opcode and funct3, and with size code 11 the low two bits of funct3. -/
theorem memoryEncodings : Obligations.MemoryEncodings := by
  intro rd rs1 rs2 f imm
  refine ⟨?_, ?_, ?_, ?_, ?_, ?_, loadSize11_encodes f rd rs1 imm, ?_, ?_, ?_, ?_, ?_, ?_, storeSize11_encodes f rs1 rs2 imm⟩
  iterate 6 exact encodes_of_funct3 (fieldOpcode_packI ..) (fieldFunct3_packI ..) (by decide)
  iterate 6 exact encodes_of_funct3 (fieldOpcode_packS ..) (fieldFunct3_packS ..) (by decide)

/-- Settles O12: the bytes read make one word, which each load widens. -/
theorem loadResults : Obligations.LoadResults := by
  intro rd rs1 imm s a b0 b1 b2 b3 ha h0
  refine ⟨?byte, fun h1 hacc => ?half, fun h1 h2 h3 hacc => ?word⟩
  case byte =>
    have hload := loadTo_of_read (size := .byte) (rd := rd) ha (.inr (Nat.mod_one _)) (Memory.readLE_one h0)
    exact ⟨(hload .sign).trans (by rw [widen_byte_sign]), (hload .zero).trans (by rw [widen_byte_zero])⟩
  case half =>
    have hload := loadTo_of_read (size := .half) (rd := rd) ha hacc (Memory.readLE_two h0 h1)
    exact ⟨(hload .sign).trans (by rw [widen_half_sign]), (hload .zero).trans (by rw [widen_half_zero])⟩
  case word =>
    have hload := loadTo_of_read (size := .word) (rd := rd) ha hacc (Memory.readLE_four h0 h1 h2 h3)
    exact ⟨hload .sign, hload .zero⟩

end Sys2Proof.Proofs
end

section
/-! SUPPORT. The rows that fix funct7 or its bit 5 too (R99, R129), the ALU's comparisons as tests on numbers, and the meaning of an
OP-IMM instruction as one write (R143, R240 to R250). -/

namespace Sys2Proof.Machine

open Sys2Proof.Claims

/-! ### Rows with funct7 -/

/-- The row's mask keeps the opcode, funct3 and funct7 fields. -/
theorem encodes_of_funct7 {i : Instr} {f7 : BitVec 7} {f3 : BitVec 3} {op : BitVec 7} {bits : Word}
    (hop : fieldOpcode (encode i) = op) (hf3 : fieldFunct3 (encode i) = f3) (hf7 : fieldFunct7 (encode i) = f7)
    (hbits : packFields f7 0#5 0#5 f3 0#5 op = bits) : Encodes i 0xFE00707F#32 bits := fun hwf =>
  ⟨by rw [and_mask_funct7, hop, hf3, hf7, hbits], decode_encode hwf⟩

/-- The row's mask keeps bit 5 of funct7 alone; for the forms with other funct7 bits, well-formedness says what that bit is. -/
theorem encodes_of_funct7_bit5 {i : Instr} {f3 : BitVec 3} {f7 op bit5 : BitVec 7} {bits : Word}
    (hop : fieldOpcode (encode i) = op) (hf3 : fieldFunct3 (encode i) = f3) (hf7 : fieldFunct7 (encode i) = f7)
    (hbit5 : WellFormed i → f7 &&& 0b0100000#7 = bit5)
    (hbits : packFields bit5 0#5 0#5 f3 0#5 op = bits) : Encodes i 0x4000707F#32 bits := fun hwf =>
  ⟨by rw [and_mask_funct7_bit5, hop, hf3, hf7, hbit5 hwf, hbits], decode_encode hwf⟩

/-! ### The ALU's comparisons and its shifts by an immediate -/

theorem alu_slt (a b : Word) : alu .slt a b = if a.toInt < b.toInt then 1#32 else 0#32 := by
  simp only [alu, boolWord, BitVec.slt_iff_toInt_lt]

theorem alu_sltu (a b : Word) : alu .sltu a b = if a.toNat < b.toNat then 1#32 else 0#32 := by
  simp only [alu, boolWord, BitVec.ult_iff_lt, BitVec.lt_def]

/-- immSH is zero-extended (R94), so its low 5 bits are the shift amount encoded. -/
theorem shiftAmount_immSH (shamt : BitVec 5) : shiftAmount (immSH shamt) = shamt.toNat := by
  have hlt : shamt.toNat < 32 := shamt.isLt
  rw [shiftAmount_eq_mod, immSH, BitVec.toNat_setWidth]
  omega

theorem alu_sll_immSH (a : Word) (shamt : BitVec 5) : alu .sll a (immSH shamt) = a <<< shamt.toNat := by
  rw [alu, shiftAmount_immSH]

theorem alu_srl_immSH (a : Word) (shamt : BitVec 5) : alu .srl a (immSH shamt) = a >>> shamt.toNat := by
  rw [alu, shiftAmount_immSH]

theorem alu_sra_immSH (a : Word) (shamt : BitVec 5) : alu .sra a (immSH shamt) = a.sshiftRight shamt.toNat := by
  rw [alu, shiftAmount_immSH]

/-! ### The meaning -/

theorem writes_of_shape_opImm {i : Instr} {f : AluFunc} {rd rs1 : RegIdx} {imm v : Word} {s : State}
    (hshape : shape i = .opImm f rd rs1 imm) (hv : alu f (s.getX rs1) imm = v) : Writes i s rd v := by
  rw [Writes, exec_eq_run, hshape, ← hv]
  exact writeAndAdvance_eq rd (alu f (s.getX rs1) imm) s

end Sys2Proof.Machine
end

section
/-! PROOFS. The statements of 44_op_imm.md. -/

namespace Sys2Proof.Proofs

open Sys2Proof Sys2Proof.Machine Sys2Proof.Claims

/-- Settles O16: each word carries its opcode and funct3, and each meaning writes the ALU's function of x[rs1] and immI. -/
theorem opImmResults : Obligations.OpImmResults := by
  refine fun rd rs1 imm s => ⟨?_, addi_writes rd rs1 imm s, ?_, writes_of_shape_opImm rfl (alu_slt _ _),
    ?_, writes_of_shape_opImm rfl (alu_sltu _ _), ?_, writes_of_shape_opImm rfl rfl, ?_, writes_of_shape_opImm rfl rfl,
    ?_, writes_of_shape_opImm rfl rfl⟩
  all_goals exact encodes_of_funct3 (fieldOpcode_packI ..) (fieldFunct3_packI ..) (by decide)

/-- Settles O17: each word carries its opcode, funct3 and funct7, and each meaning shifts x[rs1] by immSH. -/
theorem opImmShiftResults : Obligations.OpImmShiftResults := by
  refine fun rd rs1 shamt s => ⟨?_, writes_of_shape_opImm rfl (alu_sll_immSH _ _),
    ?_, writes_of_shape_opImm rfl (alu_srl_immSH _ _), ?_, writes_of_shape_opImm rfl (alu_sra_immSH _ _)⟩
  all_goals exact encodes_of_funct7 (fieldOpcode_packFields ..) (fieldFunct3_packFields ..) (fieldFunct7_packFields ..) (by decide)

/-- Settles O18: the forms have the shapes of SLLI and SRAI, and the second one's row is where funct7 bit 5 is set. -/
theorem opImmShiftOtherFunct7Results : Obligations.OpImmShiftOtherFunct7Results := by
  refine fun rd rs1 shamt funct7 s => ⟨?_, writes_of_shape_opImm rfl (alu_sll_immSH _ _),
    ?_, writes_of_shape_opImm rfl (alu_sra_immSH _ _)⟩
  · exact encodes_of_funct3 (fieldOpcode_packFields ..) (fieldFunct3_packFields ..) (by decide)
  · exact encodes_of_funct7_bit5 (fieldOpcode_packFields ..) (fieldFunct3_packFields ..) (fieldFunct7_packFields ..)
      and_bit5_of_nonStandardSet (by decide)

end Sys2Proof.Proofs
end

section
/-! SUPPORT. The row of an instruction whose row fixes funct3 but its low bit (R99, R129), and the meaning of a BRANCH as one jump
(R152, R161, R260 to R266). -/

namespace Sys2Proof.Machine

open Sys2Proof.Claims

/-- The row's mask keeps the two high bits of funct3 and the opcode alone, so the low bit of funct3 does not matter. -/
theorem encodes_of_funct3_01x {i : Instr} {f3lo : BitVec 1} {op : BitVec 7} {bits : Word} (hop : fieldOpcode (encode i) = op)
    (hf3 : fieldFunct3 (encode i) = 0b01#2 ++ f3lo) (hbits : packFields 0#7 0#5 0#5 0b010#3 0#5 op = bits) :
    Encodes i 0x0000607F#32 bits := fun hwf =>
  ⟨by rw [and_mask_funct3_high, hop, hf3, append_high_and, hbits], decode_encode hwf⟩

section
variable {i : Instr} {mode : BitVec 3} {rs1 rs2 : RegIdx} {imm : BitVec 13} {s : State}
  (hshape : shape i = .branch mode rs1 rs2 imm)
include hshape

/-- Taken or not, a BRANCH is a jump to a target computed from the state before the edge (D6). -/
theorem exec_of_shape_branch :
    exec i s = .next (s.jump
      (if taken mode (branchFlags (s.getX rs1) (s.getX rs2)) then s.pc + imm.signExtend 32 else s.pc + 4#32)) := by
  rw [exec_eq_run, hshape, Shape.run, branchIf, State.advance_eq_jump, immB, apply_ite s.jump]

variable {p : Prop} [Decidable p]

theorem exec_of_taken_eq_decide (h : taken mode (branchFlags (s.getX rs1) (s.getX rs2)) = decide p) :
    exec i s = .next (s.jump (if p then s.pc + imm.signExtend 32 else s.pc + 4#32)) := by
  simp only [exec_of_shape_branch hshape, h, decide_eq_true_eq]

theorem exec_of_taken_eq_not_decide (h : taken mode (branchFlags (s.getX rs1) (s.getX rs2)) = !decide p) :
    exec i s = .next (s.jump (if p then s.pc + 4#32 else s.pc + imm.signExtend 32)) := by
  rw [← ite_not, exec_of_taken_eq_decide hshape (h.trans (decide_not ..).symm)]

theorem onlyAdvances_of_not_taken (h : taken mode (branchFlags (s.getX rs1) (s.getX rs2)) = false) : OnlyAdvances i s := by
  rw [OnlyAdvances, exec_of_shape_branch hshape, h, if_neg Bool.false_ne_true]

end

end Sys2Proof.Machine
end

section
/-! PROOFS. The statements of 45_branches.md. -/

namespace Sys2Proof.Proofs

open Sys2Proof Sys2Proof.Machine Sys2Proof.Claims

/-- Settles O11: each word carries its opcode and funct3, which is the `mem_mode` that picks its row of R152's table; by R145 three of
the rows are a comparison of the two numbers, and three its negation. -/
theorem branchResults : Obligations.BranchResults := by
  intro rs1 rs2 f3lo imm s
  refine ⟨⟨?_, exec_of_taken_eq_decide rfl rfl⟩, ⟨?_, exec_of_taken_eq_not_decide rfl rfl⟩,
    ⟨?_, exec_of_taken_eq_decide rfl rfl⟩, ⟨?_, exec_of_taken_eq_not_decide rfl rfl⟩,
    ⟨?_, exec_of_taken_eq_decide rfl rfl⟩, ⟨?_, exec_of_taken_eq_not_decide rfl rfl⟩,
    ⟨encodes_of_funct3_01x (fieldOpcode_packB ..) (fieldFunct3_packB ..) (by decide), onlyAdvances_of_not_taken rfl (taken_01x f3lo _)⟩⟩
  all_goals exact encodes_of_funct3 (fieldOpcode_packB ..) (fieldFunct3_packB ..) (by decide)

end Sys2Proof.Proofs
end

section
/-! SUPPORT. A store that completes, byte by byte (R67, R69, R71). -/

namespace Sys2Proof.Machine

open Sys2Proof.Claims

/-- An instruction whose meaning is an accepted store completes, and the store's bytes hold the low bytes of x[rs2] (D1). -/
theorem storesAt_of_exec_eq_storeFrom {i : Instr} {size : AccessSize} {rs1 rs2 : RegIdx} {imm : BitVec 12} {s : State} {a : Word}
    (ha : a = s.getX rs1 + imm.signExtend 32) (hacc : Accepted s a size.bytes)
    (hexec : exec i s = storeFrom size rs1 rs2 imm s) : StoresAt i s a (s.getX rs2) size.bytes := by
  subst ha
  refine ⟨_, hexec.trans (storeFrom_eq_next.mpr ⟨State.misaligned_eq_false.mpr hacc, rfl⟩), ?bytes, ?frame⟩
  case bytes => exact fun k hk => Memory.read_writeLE_inside hk size.bytes_le
  case frame => exact fun b hb => Memory.read_writeLE_outside hb

end Sys2Proof.Machine
end

section
/-! PROOFS. The statements of 46_stores.md. -/

namespace Sys2Proof.Proofs

open Sys2Proof Sys2Proof.Machine Sys2Proof.Claims

/-- Settles O13: the two forms of each size are one store (D14), and a byte's address is always accepted. -/
theorem storeResults : Obligations.StoreResults := by
  intro rs1 rs2 imm s a ha
  refine ⟨?byte, fun hacc => ?half, fun hacc => ?word⟩
  case byte =>
    have hacc : Accepted s a AccessSize.byte.bytes := .inr (Nat.mod_one _)
    exact ⟨storesAt_of_exec_eq_storeFrom ha hacc rfl, storesAt_of_exec_eq_storeFrom ha hacc rfl⟩
  case half =>
    exact ⟨storesAt_of_exec_eq_storeFrom (size := .half) ha hacc rfl, storesAt_of_exec_eq_storeFrom (size := .half) ha hacc rfl⟩
  case word =>
    exact ⟨storesAt_of_exec_eq_storeFrom (size := .word) ha hacc rfl, storesAt_of_exec_eq_storeFrom (size := .word) ha hacc rfl⟩

end Sys2Proof.Proofs
end

section
/-! SUPPORT. The ALU's shifts as shifts by b modulo 32 (R142, R143), and the meaning of an OP instruction as one write (R300 to R310). -/

namespace Sys2Proof.Machine

open Sys2Proof.Claims

theorem alu_sll (a b : Word) : alu .sll a b = a <<< (b.toNat % 32) := by rw [alu, shiftAmount_eq_mod]

theorem alu_srl (a b : Word) : alu .srl a b = a >>> (b.toNat % 32) := by rw [alu, shiftAmount_eq_mod]

theorem alu_sra (a b : Word) : alu .sra a b = a.sshiftRight (b.toNat % 32) := by rw [alu, shiftAmount_eq_mod]

theorem writes_of_shape_op {i : Instr} {f : AluFunc} {rd rs1 rs2 : RegIdx} {v : Word} {s : State}
    (hshape : shape i = .op f rd rs1 rs2) (hv : alu f (s.getX rs1) (s.getX rs2) = v) : Writes i s rd v := by
  rw [Writes, exec_eq_run, hshape, ← hv]
  exact writeAndAdvance_eq rd (alu f (s.getX rs1) (s.getX rs2)) s

end Sys2Proof.Machine
end

section
/-! PROOFS. The statements of 47_op.md. -/

namespace Sys2Proof.Proofs

open Sys2Proof Sys2Proof.Machine Sys2Proof.Claims

/-- Settles O19: each word carries its opcode, funct3 and funct7, and each meaning writes the ALU's function of x[rs1] and x[rs2]. -/
theorem opResults : Obligations.OpResults := by
  rintro rd rs1 rs2 s a b rfl rfl
  refine ⟨?_, writes_of_shape_op rfl rfl, ?_, writes_of_shape_op rfl rfl, ?_, writes_of_shape_op rfl (alu_slt _ _),
    ?_, writes_of_shape_op rfl (alu_sltu _ _), ?_, writes_of_shape_op rfl rfl, ?_, writes_of_shape_op rfl (alu_srl _ _),
    ?_, writes_of_shape_op rfl (alu_sra _ _), ?_, writes_of_shape_op rfl rfl, ?_, writes_of_shape_op rfl rfl⟩
  all_goals exact encodes_of_funct7 (fieldOpcode_packFields ..) (fieldFunct3_packFields ..) (fieldFunct7_packFields ..) (by decide)

/-- Settles O20: each form has the shape of the standard instruction it is named after. Only where funct3 names two functions does its
row fix a bit of funct7, and well-formedness says that the bit is clear for ADD and SRL and set for SUB and SRA. -/
theorem opSllAndNonStandardFunct7Results : Obligations.OpSllAndNonStandardFunct7Results := by
  rintro f rd rs1 rs2 s a b rfl rfl
  refine ⟨?sll, writes_of_shape_op rfl (alu_sll _ _), ?anyAdd, writes_of_shape_op rfl rfl, ?anySub, writes_of_shape_op rfl rfl,
    ?anySrl, writes_of_shape_op rfl (alu_srl _ _), ?anySra, writes_of_shape_op rfl (alu_sra _ _),
    ?anySll, writes_of_shape_op rfl (alu_sll _ _), ?anySlt, writes_of_shape_op rfl (alu_slt _ _),
    ?anySltu, writes_of_shape_op rfl (alu_sltu _ _), ?anyXor, writes_of_shape_op rfl rfl, ?anyOr, writes_of_shape_op rfl rfl,
    ?anyAnd, writes_of_shape_op rfl rfl⟩
  case sll =>
    exact encodes_of_funct7 (fieldOpcode_packFields ..) (fieldFunct3_packFields ..) (fieldFunct7_packFields ..) (by decide)
  case anyAdd | anySrl =>
    exact encodes_of_funct7_bit5 (fieldOpcode_packFields ..) (fieldFunct3_packFields ..) (fieldFunct7_packFields ..)
      and_bit5_of_nonStandardClear (by decide)
  case anySub | anySra =>
    exact encodes_of_funct7_bit5 (fieldOpcode_packFields ..) (fieldFunct3_packFields ..) (fieldFunct7_packFields ..)
      and_bit5_of_nonStandardSet (by decide)
  case anySll | anySlt | anySltu | anyXor | anyOr | anyAnd =>
    exact encodes_of_funct3 (fieldOpcode_packFields ..) (fieldFunct3_packFields ..) (by decide)

end Sys2Proof.Proofs
end

section
/-! SUPPORT. The rows of the SYSTEM words that fix more than opcode and funct3 (R99, R129), and the meaning of an M-extension word under
each value of `OP_FUNCT7_01` (D28). -/

namespace Sys2Proof.Machine

open Sys2Proof.Claims

/-- The row's mask is the whole word, so the row holds one word. -/
theorem encodes_of_word {i : Instr} {bits : Word} (hword : encode i = bits) : Encodes i 0xFFFFFFFF#32 bits := fun hwf =>
  ⟨hword ▸ BitVec.and_allOnes, decode_encode hwf⟩

/-- The row's mask leaves rs1 and rs2 free. -/
theorem encodes_of_funct7_rd {i : Instr} {f7 : BitVec 7} {f3 : BitVec 3} {rd : RegIdx} {op : BitVec 7} {bits : Word}
    (hop : fieldOpcode (encode i) = op) (hrd : fieldRd (encode i) = rd) (hf3 : fieldFunct3 (encode i) = f3)
    (hf7 : fieldFunct7 (encode i) = f7) (hbits : packFields f7 0#5 0#5 f3 rd op = bits) : Encodes i 0xFE007FFF#32 bits := fun hwf =>
  ⟨by rw [and_mask_funct7_rd, hop, hrd, hf3, hf7, hbits], decode_encode hwf⟩

/-- The last row has an empty mask: it holds every word (R354). -/
theorem encodes_of_empty_mask (i : Instr) : Encodes i 0x00000000#32 0x00000000#32 := fun hwf =>
  ⟨BitVec.and_zero, decode_encode hwf⟩

section
variable {i : Instr} (hshape : shape i = .mul) {s : State}
include hshape

theorem onlyAdvances_of_shape_mul (hcfg : s.cfg.opFunct701 = .noop) : OnlyAdvances i s :=
  (exec_of_shape_mul hshape s).resolve_right fun ⟨hrefuse, _⟩ => nomatch hcfg.symm.trans hrefuse

theorem refused_of_shape_mul (hcfg : s.cfg.opFunct701 = .refuse) : exec i s = .refused (.funct7_01 s.pc) := by
  rw [exec_eq_run, hshape, Shape.run, opFunct701, hcfg]

end

end Sys2Proof.Machine
end

section
/-! PROOFS. The statements of 48_default_noop.md. -/

namespace Sys2Proof.Proofs

open Sys2Proof Sys2Proof.Machine Sys2Proof.Claims

/-- Settles O5: the decoder is run on each word. -/
theorem sampleWordsDecode : Obligations.SampleWordsDecode := by
  unfold Obligations.SampleWordsDecode
  decide

/-- Settles O21: each form has the safe default's shape; five of the rows hold one word, and SFENCE.VMA's fixes rd too. -/
theorem systemWordsOnlyAdvance : Obligations.SystemWordsOnlyAdvance := by
  intro fm pred succ imm rd rs1 rs2 bits s
  refine ⟨⟨?fence, ?_⟩, ⟨?fenceI, ?_⟩, ⟨encodes_of_word rfl, ?_⟩, ⟨encodes_of_word rfl, ?_⟩, ⟨encodes_of_word rfl, ?_⟩,
    ⟨encodes_of_word rfl, ?_⟩, ⟨encodes_of_word rfl, ?_⟩, ⟨?sfenceVma, ?_⟩, ⟨?systemOther, ?_⟩⟩
  case fence | fenceI => exact encodes_of_funct3 (fieldOpcode_packI ..) (fieldFunct3_packI ..) (by decide)
  case sfenceVma =>
    exact encodes_of_funct7_rd (fieldOpcode_packFields ..) (fieldRd_packFields ..) (fieldFunct3_packFields ..)
      (fieldFunct7_packFields ..) (by decide)
  case systemOther => exact encodes_of_opcode (fieldOpcode_appendOpcode ..) (by decide)
  all_goals exact onlyAdvances_of_shape_nop rfl s

/-- Settles O22: each form has the safe default's shape, which writes no rd. -/
theorem csrAndUnrecognisedWordsOnlyAdvance : Obligations.CsrAndUnrecognisedWordsOnlyAdvance := by
  intro rd rs1 csr funct7 shamt w s
  refine ⟨⟨?_, onlyAdvances_of_shape_nop rfl s⟩, ⟨?_, onlyAdvances_of_shape_nop rfl s⟩, ⟨?_, onlyAdvances_of_shape_nop rfl s⟩,
    ⟨?_, onlyAdvances_of_shape_nop rfl s⟩, ⟨?_, onlyAdvances_of_shape_nop rfl s⟩, ⟨?_, onlyAdvances_of_shape_nop rfl s⟩,
    ⟨?srxi, onlyAdvances_of_shape_nop rfl s⟩, ⟨encodes_of_empty_mask _, onlyAdvances_of_shape_nop rfl s⟩⟩
  case srxi => exact encodes_of_funct3 (fieldOpcode_packFields ..) (fieldFunct3_packFields ..) (by decide)
  all_goals exact encodes_of_funct3 (fieldOpcode_packI ..) (fieldFunct3_packI ..) (by decide)

/-- Settles O23: the eight words carry funct7 0000001 and differ in funct3 alone, and all have one shape. -/
theorem mulWordsOnlyAdvance : Obligations.MulWordsOnlyAdvance := by
  intro rd rs1 rs2 s mk f3 h
  simp only [List.mem_cons, Prod.mk.injEq, List.not_mem_nil, or_false] at h
  obtain ⟨rfl, rfl⟩ | ⟨rfl, rfl⟩ | ⟨rfl, rfl⟩ | ⟨rfl, rfl⟩ | ⟨rfl, rfl⟩ | ⟨rfl, rfl⟩ | ⟨rfl, rfl⟩ | ⟨rfl, rfl⟩ := h
  all_goals
    refine ⟨?_, onlyAdvances_of_shape_mul rfl, refused_of_shape_mul rfl⟩
    exact encodes_of_funct7 (fieldOpcode_packFields ..) (fieldFunct3_packFields ..) (fieldFunct7_packFields ..) (by decide)

end Sys2Proof.Proofs
end

section
/-! SUPPORT. Where an instruction stops (R66, R70, R71, R371): only a load, a store, size code 11 and the M-extension words can, and each
access for its own reason. -/

namespace Sys2Proof.Machine

open Sys2Proof.Claims

/-- A read of several bytes that has no value has a byte with none (R62, R66). -/
theorem Memory.exists_read_eq_none {m : Memory} {a : Word} {n : Nat} (h : m.readLE a n = none) :
    ∃ k < n, m.read (byteAddr a k).toNat = none := by
  induction n with
  | zero => simp [Memory.readLE] at h
  | succ n ih =>
    cases hlow : m.readLE a n with
    | none =>
      obtain ⟨k, hk, hbyte⟩ := ih hlow
      exact ⟨k, by omega, hbyte⟩
    | some v =>
      cases hbyte : m.read (byteAddr a n).toNat with
      | none => exact ⟨n, by omega, hbyte⟩
      | some b => simp [Memory.readLE, hlow, hbyte] at h

theorem not_accepted_of_misaligned {s : State} {a : Word} {size : AccessSize} (h : s.misaligned a size = true) :
    ¬Accepted s a size.bytes := fun hacc => by
  rw [State.misaligned_eq_false.mpr hacc] at h; cases h

section
variable {i : Instr} {s : State} {a : Word} {n : Nat}

/-- A byte's address is always accepted, so an access that is not accepted is a halfword's or a word's. -/
theorem ne_one_of_not_accepted (hacc : ¬Accepted s a n) : n ≠ 1 := fun hn => hacc (.inr (hn ▸ Nat.mod_one _))

theorem wideAccess_of_loadAccess (h : loadAccess i s = some (a, n)) (hn : n ≠ 1) : wideAccess i s = some (a, n) := by
  cases i <;> cases h
  case lb | lbu => exact absurd rfl hn
  all_goals rfl

theorem wideAccess_of_storeAccess (h : storeAccess i s = some (a, n)) (hn : n ≠ 1) : wideAccess i s = some (a, n) := by
  cases i <;> cases h
  case sb | storeByteF3_100 => exact absurd rfl hn
  all_goals rfl

/-- A load completes, or is misaligned, or is accepted and reads a byte without value (R66, R71). -/
theorem exec_of_loadAccess (h : loadAccess i s = some (a, n)) :
    (∃ t, exec i s = .next t) ∨ (¬Accepted s a n ∧ exec i s = .fault (.misalignedData a)) ∨
      (Accepted s a n ∧ (∃ k < n, s.dmem.read (byteAddr a k).toNat = none) ∧ exec i s = .fault (.uninitialisedMemory a)) := by
  obtain ⟨size, how, rd, rs1, imm, hexec, rfl, rfl⟩ := loadAccess_eq_some h
  rw [hexec]
  cases hmis : s.misaligned (s.effAddr rs1 (immI imm)) size with
  | true => exact .inr (.inl ⟨not_accepted_of_misaligned hmis, loadTo_of_misaligned hmis⟩)
  | false =>
    cases hread : s.dmem.readLE (s.effAddr rs1 (immI imm)) size.bytes with
    | none =>
      exact .inr (.inr ⟨State.misaligned_eq_false.mp hmis, Memory.exists_read_eq_none hread, loadTo_of_uninitialised hmis hread⟩)
    | some v => exact .inl ⟨_, loadTo_eq_next.mpr ⟨hmis, v, hread, rfl⟩⟩

/-- A store completes or is misaligned: it never reads memory (R67, R71). -/
theorem exec_of_storeAccess (h : storeAccess i s = some (a, n)) :
    (∃ t, exec i s = .next t) ∨ (¬Accepted s a n ∧ exec i s = .fault (.misalignedData a)) := by
  obtain ⟨size, rs1, rs2, imm, hexec, rfl, rfl⟩ := storeAccess_eq_some h
  rw [hexec]
  cases hmis : s.misaligned (s.effAddr rs1 (immS imm)) size with
  | true => exact .inr ⟨not_accepted_of_misaligned hmis, storeFrom_of_misaligned hmis⟩
  | false => exact .inl ⟨_, storeFrom_eq_next.mpr ⟨hmis, rfl⟩⟩

end

theorem exec_of_isSize11 {i : Instr} (h : isSize11 i = true) (s : State) : exec i s = .fault (.memSizeReserved s.pc) := by
  cases i <;> cases h
  case loadSize11 => exact exec_loadSize11 ..
  case storeSize11 => exact exec_storeSize11 ..

/-- Every instruction but those that make or would make an access, and the M-extension words, completes in every state. -/
theorem exec_eq_next_or (i : Instr) (s : State) :
    (∃ t, exec i s = .next t) ∨ isSize11 i = true ∨ (∃ a n, loadAccess i s = some (a, n)) ∨
      (∃ a n, storeAccess i s = some (a, n)) ∨ isMul i = true := by
  cases i
  case loadSize11 | storeSize11 => exact .inr (.inl rfl)
  case lb | lh | lw | lbu | lhu | loadWordF3_110 => exact .inr (.inr (.inl ⟨_, _, rfl⟩))
  case sb | sh | sw | storeByteF3_100 | storeHalfF3_101 | storeWordF3_110 => exact .inr (.inr (.inr (.inl ⟨_, _, rfl⟩)))
  case mul | mulh | mulhsu | mulhu | div | divu | rem | remu => exact .inr (.inr (.inr (.inr rfl)))
  all_goals exact .inl ⟨_, rfl⟩

end Sys2Proof.Machine
end

section
/-! PROOFS. The statements of 60_exceptions.md. -/

namespace Sys2Proof.Proofs

open Sys2Proof Sys2Proof.Machine Sys2Proof.Claims

/-- Settles O29: each kind of instruction that can stop does so for its own outcome. -/
theorem instructionsStopOnlyAtNamedOutcomes : Obligations.InstructionsStopOnlyAtNamedOutcomes := by
  intro i s
  obtain hnext | hsize | ⟨a, n, hload⟩ | ⟨a, n, hstore⟩ | hmul := exec_eq_next_or i s
  · exact .inl hnext
  · exact .inr (.inl ⟨hsize, exec_of_isSize11 hsize s⟩)
  · obtain hnext | ⟨hacc, hexec⟩ | hread := exec_of_loadAccess hload
    · exact .inl hnext
    · exact .inr (.inr (.inl ⟨a, n, wideAccess_of_loadAccess hload (ne_one_of_not_accepted hacc), hacc, hexec⟩))
    · exact .inr (.inr (.inr (.inl ⟨a, n, hload, hread⟩)))
  · obtain hnext | ⟨hacc, hexec⟩ := exec_of_storeAccess hstore
    · exact .inl hnext
    · exact .inr (.inr (.inl ⟨a, n, wideAccess_of_storeAccess hstore (ne_one_of_not_accepted hacc), hacc, hexec⟩))
  · obtain hadv | hrefused := exec_of_shape_mul (isMul_eq_true.mp hmul) s
    · exact .inl ⟨_, hadv⟩
    · exact .inr (.inr (.inr (.inr ⟨hmul, hrefused⟩)))

end Sys2Proof.Proofs
end

section
/-! SUPPORT. The reset edge and the launch state (R400 to R403, R410), and the halt idiom (R425). -/

namespace Sys2Proof.Machine

open Sys2Proof.Claims

/-- Whatever the cycle answers, under both values of `RESET_STORE` (R400). -/
theorem pc_of_step_rst {s t : State} (hrst : s.rst = true) (h : step s = .next t) : t.pc = s.cfg.bootAddr := by
  rw [step_of_rst hrst] at h
  obtain ⟨-, rfl⟩ | ⟨-, u, -, rfl⟩ := resetEdge_eq_next h
  · rfl
  · rfl

/-- Under suppressed the cycle's own outcome is not looked at (D18, log 10). -/
theorem step_of_suppressed {s : State} (hrst : s.rst = true) (hcfg : s.cfg.resetStore = .suppressed) :
    step s = .next (s.jump s.cfg.bootAddr) := by
  simp [step_of_rst hrst, resetEdge, hcfg]

/-- Under performed the cycle's outcome stands, but for the PC (D18, log 10). -/
theorem step_of_performed {s : State} (hrst : s.rst = true) (hcfg : s.cfg.resetStore = .performed) :
    step s = mapNext (fun u => u.jump s.cfg.bootAddr) (runCycle s) := by
  rw [step_eq_mapNext (by simp [hcfg]), State.atEdge_of_rst hrst]

/-- A launch state fetches at the boot address (R402). -/
theorem launch_fetch_eq_some {cfg : Config} {imem dmem : Memory} {w : Word} :
    (State.launch cfg imem dmem).fetch = some w ↔ cfg.bootAddr.toNat % 4 = 0 ∧ imem.readLE cfg.bootAddr 4 = some w :=
  State.fetch_eq_some

theorem launchable_iff {cfg : Config} {imem dmem : Memory} :
    Launchable cfg imem ↔ ∃ w, (State.launch cfg imem dmem).fetch = some w := by
  simp only [Launchable, launch_fetch_eq_some, Option.isSome_iff_exists, exists_and_left]

theorem launch_inv {cfg : Config} {imem dmem : Memory} (himem : imem.wf) (hdmem : dmem.wf) (hboot : cfg.bootAddr.getLsbD 0 = false) :
    (State.launch cfg imem dmem).Inv where
  dmem_wf := hdmem
  imem_wf := himem
  x0_zero := rfl
  x0_written := rfl
  pc_even := hboot
  boot_even := hboot

/-- `jal x0, 0` discards its link and jumps to itself (R31, R425). -/
theorem exec_haltIdiom (s : State) : exec (.jal 0#5 0#21) s = .next s := by
  rw [exec_jal, State.setX_zero, show (0#21).signExtend 32 = 0#32 by decide, BitVec.add_zero]
  rfl

end Sys2Proof.Machine
end

section
/-! PROOFS. The statements of 70_reset_and_hazards.md. -/

namespace Sys2Proof.Proofs

open Sys2Proof Sys2Proof.Machine Sys2Proof.Claims

/-- Settles O34: the edge leaves the image as it was, so the word it holds at the boot address is the one fetched next. -/
theorem resetForcesTheBootAddress : Obligations.ResetForcesTheBootAddress := by
  intro s t hrst h
  have hpc : t.pc = s.cfg.bootAddr := pc_of_step_rst hrst h
  have himem : t.imem = s.imem := (step_eq_next h).1.imem_eq
  refine ⟨hpc, fun i hwf halign hbytes => ?_⟩
  rw [← hpc] at halign hbytes
  exact stepRunsTheFetchedInstruction _ i rfl halign hwf (himem ▸ hbytes)

/-- Settles O35: under performed the fetched word is the instruction's own, so the cycle's outcome is the instruction's. -/
theorem resetEdgeEffects : Obligations.ResetEdgeEffects := by
  refine fun s hrst => ⟨step_of_suppressed hrst, fun i hcfg hfetch hwf => ?_⟩
  rw [step_of_performed hrst hcfg, runCycle_of_fetch hfetch, decode_encode hwf]

/-- Settles O37: the launch state fetches a word exactly when it is launchable, and its reset input is deasserted. -/
theorem launchRunsTheBootWord : Obligations.LaunchRunsTheBootWord := by
  refine fun cfg imem dmem => ⟨fun hlaunch => ?_, fun hlaunch => ?_⟩
  · obtain ⟨w, hfetch⟩ := launchable_iff.mp hlaunch
    exact ⟨w, (launch_fetch_eq_some.mp hfetch).2, by rw [step_of_not_rst rfl, runCycle_of_fetch hfetch]⟩
  · have hfetch : (State.launch cfg imem dmem).fetch = none :=
      Option.eq_none_iff_forall_ne_some.mpr fun w hw => hlaunch (launchable_iff.mpr ⟨w, hw⟩)
    rw [step_of_not_rst rfl, runCycle_of_no_fetch hfetch]
    rfl

/-- Settles O38: the word decodes to `jal x0, 0`, which answers the state it ran in. -/
theorem haltIdiomIsAFixedPoint : Obligations.HaltIdiomIsAFixedPoint := by
  intro s hrst hhalt
  have hdecode : decode 0x0000006F#32 = .jal 0#5 0#21 := by decide
  rw [step_of_not_rst hrst, runCycle_of_fetch hhalt, hdecode, exec_haltIdiom]

/-- Settles O50: `State.reset` is the launch with empty memories and boot address 0. -/
theorem invariantHoldsAtLaunch : Obligations.InvariantHoldsAtLaunch :=
  ⟨launch_inv Memory.wf_nil Memory.wf_nil rfl, fun _ _ _ => launch_inv⟩

end Sys2Proof.Proofs
end
